-- ==== Sys2Proof/Word.lean ====
section
/-! DEFINITION. The words of LDCORE and the plain shapes of its frame buffers (00_scope.md R14, R16, R17;
10_state.md R48). Arithmetic on them stands in Machine/Operands.lean. -/

namespace Sys2Proof

/-- A host register and a command word: 32 bits (10_state.md R27, 30_encoding.md R80). -/
abbrev Word := BitVec 32

/-- A VBI line code: 24 bits (30_encoding.md R91). -/
abbrev LineWord := BitVec 24

/-- One element of `F1`, `F2` or `RGB`: 16 bits unsigned (20_memory.md R61). -/
abbrev Sample := BitVec 16

/-- A plane of per-pixel integers, one list per frame line, addressed `[y][x]` (10_state.md R48: "a model
may hold every part as an unbounded integer"). Log 13. -/
abbrev Plane := List (List Int)

/-- The four values `(fieldWidth, fieldHeight, avs, ave)` of `GEOM` (10_state.md R48). -/
structure Geometry where
  fieldWidth : BitVec 16
  fieldHeight : BitVec 16
  avs : BitVec 16
  ave : BitVec 16
deriving DecidableEq, Repr, Inhabited

/-- A FrameBuffer, the type of `CUR` and of a present `PREV` (10_state.md R48, R49). -/
structure FrameBuffer where
  raw : Plane
  clp0 : Plane
  clp1 : Plane
  clp2 : Plane
  kv : Plane
  yiqY : Plane
  yiqI : Plane
  yiqQ : Plane
  p1 : BitVec 3
  p2 : BitVec 3
  geom : Geometry
deriving DecidableEq, Repr, Inhabited

end Sys2Proof
end

