-- ==== Sys2Proof/Config.lean ====
section
/-! DEFINITION. What an implementation of LDCORE fixes: the parameters of 00_scope.md R10 and R11 at the
spec's defaults (log 10), and the free values the spec leaves unspecified (70_reset_and_hazards.md R304;
log 6, 7, 8). A free value is an opaque constant: nothing can be proved of what it is. -/

namespace Sys2Proof.Config

/-- `MAX_LINES`: the frame-line bound of the per-pixel buffers (00_scope.md R10). -/
def maxLines : Nat := 526

/-- `MAX_COLS`: the column bound of the per-pixel buffers (00_scope.md R10). -/
def maxCols : Nat := 911

/-- `FRAC`: the fractional bits of the internal chroma and YIQ values, whose unit is 1/16 of a sample LSB
(00_scope.md R11). -/
def frac : Nat := 4

/-- `GAIN_FRAC`: the fractional bits of `chromaGain` (00_scope.md R11, 10_state.md R33). -/
def gainFrac : Nat := 8

/-- `NR_FRAC`: the fractional bits of `cNRLevel` and `yNRLevel` (00_scope.md R11, 10_state.md R33). -/
def nrFrac : Nat := 4

/-- One sample LSB in the internal unit, `2 ^ FRAC`: the 16 of the formulas of files 41 to 43. -/
def lsb : Int := (2 ^ frac : Nat)

/-- A gain of 1.0, `2 ^ GAIN_FRAC` (10_state.md R33). -/
def unitGain : Int := (2 ^ gainFrac : Nat)

/-- A level of 1 IRE, `2 ^ NR_FRAC` (10_state.md R33). -/
def unitIre : Int := (2 ^ nrFrac : Nat)

/-- `FIRST_ACTIVE_LINE`, `FAL`: the first frame line processed by every stage (00_scope.md R11). -/
def fal : Nat := 0

/-- `K_RANGE_IRE`: the luma difference, in IRE, at which K reaches 0 (00_scope.md R11, 41 R145). -/
def kRangeIre : Int := 10

/-- `FIR_I`: the low-pass taps of I, and of Q when `colorlpf_hq` (00_scope.md R11, 42 R166). -/
def firI : List Int := [1, 2, 3, 4, 3, 2, 1]

/-- `FIR_Q`: the low-pass taps of Q when not `colorlpf_hq` (00_scope.md R11, 42 R166). -/
def firQ : List Int := [1, 2, 3, 4, 5, 6, 7, 8, 7, 6, 5, 4, 3, 2, 1]

/-- `NR_HP`: the taps of the noise reducers' high-pass (00_scope.md R11, 42 R170). -/
def nrHp : List Int := [-1, 2, -1]

/-- The divisor of `NR_HP` (00_scope.md R11). -/
def nrHpDiv : Int := 4

/-- The divisor of `M_RGB` (00_scope.md R11). -/
def mDiv : Int := 1024

/-- A row of `M_RGB`: the I and Q coefficients over `mDiv`; the Y coefficient is `mDiv` in every row
(00_scope.md R11; 92_eei_decisions.md section 2: "first column 1024"). -/
structure MatrixRow where
  ci : Int
  cq : Int
deriving DecidableEq, Repr

/-- The red row of `M_RGB` (43 R194). -/
def mRed : MatrixRow := ⟨979, 636⟩

/-- The green row of `M_RGB` (43 R194). -/
def mGreen : MatrixRow := ⟨-279, -663⟩

/-- The blue row of `M_RGB` (43 R194). -/
def mBlue : MatrixRow := ⟨-1134, 1745⟩

/-- `WP75_NUM`, over `wp75Den`: the luma scale factor when `whitePoint75` (00_scope.md R11, 43 R192). -/
def wp75Num : Int := 5

/-- The 4 that `WP75_NUM` is over (00_scope.md R11): the factor without `whitePoint75`. -/
def wp75Den : Int := 4

/-- `FBUF_CAP` = 263 x 911, the capacity of each input field buffer (00_scope.md R11, 10 R46). -/
def fbufCap : Nat := 239593

/-- The number of elements of `RGB`, 526 x 911 x 3 (10_state.md R47). -/
def rgbCap : Nat := 1437558

/-- FREE VALUE (log 6): what an element of `F1` (`second = false`) or `F2` (`second = true`) holds that the
host has not written since the reset numbered `epoch` (70 R292, 93 W1). -/
opaque freeField (epoch : Nat) (second : Bool) (index : Nat) : Sample

/-- FREE VALUE (log 7): what an element of `RGB` holds while it is unspecified; `epoch` counts the events that
made the buffer unspecified (10 R47, 70 R304, 93 W1 to W3). -/
opaque freeRgb (epoch : Nat) (index : Nat) : Sample

/-- FREE VALUE (log 8): the content of `CUR` between commands; `epoch` counts the events that leave it another
content: reset, and a `DECF` that completes (10 R52, 70 R304, 93 W1, W4). -/
opaque freeFrame (epoch : Nat) : FrameBuffer

end Sys2Proof.Config
end

