-- ==== Sys2Proof/Syntax.lean ====
section
/-! DEFINITION. The instructions of LDCORE: one constructor per row of spec/opcode_table.json, that is the six
commands of format CMD32 (30_encoding.md R83) and the eleven line codes of format VBI24 (R92 to R98). The
arguments of a constructor are the fields of its row, raw, at every value the encoding admits. -/

namespace Sys2Proof

/-- One instruction: a command word written to `CMD`, or a line code of a `VW` register. -/
inductive Instr where
  /-- `NOP` (40 R112). -/
  | nop
  /-- `CFG`, the source's updateConfiguration (40 R113). -/
  | cfg
  /-- `DECF`, the source's decodeFrame (41 R130). -/
  | decf
  /-- `VDEC`, the VBI decode (44 R210). -/
  | vdec
  /-- `VENC`, the VBI encode; `p` = 1 for a PAL source (45 R240, 30 R82). -/
  | venc (p : BitVec 1)
  /-- `SRST`, the soft reset (40 R119). -/
  | srst
  /-- `LEADIN`, `0x88FFFF` (30 R92). -/
  | leadin
  /-- `LEADOUT`, `0x80EEEE` (30 R92). -/
  | leadout
  /-- `STOP`, `0x82CFFF` (30 R92). -/
  | stop
  /-- `CLVMARK`, `0x87FFFF` (30 R92). -/
  | clvmark
  /-- `PICNO`: the legacy stop bit and five digits (30 R93). -/
  | picno (s19 : BitVec 1) (d4 : BitVec 3) (d3 d2 d1 d0 : BitVec 4)
  /-- `TIMECODE`: hour, minute tens, minute units (30 R94). -/
  | timecode (hr mt mu : BitVec 4)
  /-- `CHAPTER`: the ignored bit 19, tens, units (30 R95). -/
  | chapter (c19 : BitVec 1) (ct : BitVec 3) (cu : BitVec 4)
  /-- `CLVSEC`: tens of seconds plus 10, units of seconds, picture tens and units (30 R96). -/
  | clvsec (x1 x3 x4 x5 : BitVec 4)
  /-- The programme status word with CX on, `0x8DC...` (30 R97). -/
  | statusCxOn (x3 x4 x5 : BitVec 4)
  /-- The programme status word with CX off, `0x8BA...` (30 R97). -/
  | statusCxOff (x3 x4 x5 : BitVec 4)
  /-- `USERCODE`: the first hexadecimal digit and the other three (30 R98). -/
  | usercode (x1 : BitVec 4) (x345 : BitVec 12)
deriving DecidableEq, Repr

end Sys2Proof
end

