-- ==== Sys2Proof/WellFormed.lean ====
section
/-! DEFINITION. Which instruction terms are well formed. Every command is. The masks of the line codes overlap in
places (30_encoding.md R94, R96, R100), so a term whose word is read as another row is ill formed: it is not the
reading of any word (log 4). A word that is VALID in a format (R93 to R98) is always well formed there. -/

namespace Sys2Proof

/-- A `PICNO` term is well formed unless its `d3`, `d2` are the filler `DD` of a `TIMECODE` word (30 R94). -/
def Instr.wfPicno (d3 d2 : BitVec 4) : Bool := !(d3 == 0xD#4 && d2 == 0xD#4)

/-- A `CHAPTER` term is well formed unless its word is a `USERCODE` word (units `D`), a `CLVSEC` word (units
`E`), or a programme status word (`8DC`, `8BA`); none of these is a valid chapter (30 R95, R100). -/
def Instr.wfChapter (c19 : BitVec 1) (ct : BitVec 3) (cu : BitVec 4) : Bool :=
  !(cu == 0xD#4) && !(cu == 0xE#4)
    && !(c19 ++ ct == 0xD#4 && cu == 0xC#4) && !(c19 ++ ct == 0xB#4 && cu == 0xA#4)

/-- A `CLVSEC` term is well formed unless its word is the `LEADOUT` sentinel `0x80EEEE` (30 R96). -/
def Instr.wfClvsec (x1 x3 x4 x5 : BitVec 4) : Bool :=
  !(x1 == 0x0#4 && x3 == 0xE#4 && x4 == 0xE#4 && x5 == 0xE#4)

/-- An instruction is well formed when its encoding is read back as itself. -/
def Instr.wf : Instr → Bool
  | .nop => true
  | .cfg => true
  | .decf => true
  | .vdec => true
  | .venc _ => true
  | .srst => true
  | .leadin => true
  | .leadout => true
  | .stop => true
  | .clvmark => true
  | .picno _ _ d3 d2 _ _ => Instr.wfPicno d3 d2
  | .timecode _ _ _ => true
  | .chapter c19 ct cu => Instr.wfChapter c19 ct cu
  | .clvsec x1 x3 x4 x5 => Instr.wfClvsec x1 x3 x4 x5
  | .statusCxOn _ _ _ => true
  | .statusCxOff _ _ _ => true
  | .usercode _ _ => true

end Sys2Proof
end

