-- ==== Sys2Proof/Decode.lean ====
section
/-! DEFINITION. Decoding of command words (30_encoding.md R80 to R87) and of line codes (R91 to R101), total and
rejecting by name; then the encoder, written from the same tables. LDCORE's unit of transfer is the whole element
(20_memory.md R62), so a word is decoded as it stands, with no byte order (log 9). -/

namespace Sys2Proof

/-- Why a word is no instruction. -/
inductive DecodeError where
  /-- Bits 31:9 of a command word are not 0 (30 R84). -/
  | reservedBits
  /-- The opcode is not in the map (30 R85). -/
  | reservedOpcode
  /-- Bit 8 is set in a command other than `VENC` (30 R85). -/
  | operandNotAllowed
  /-- The line code matches no format (30 R99). -/
  | unrecognisedLine
deriving DecidableEq, Repr

/-- A word with the place it comes from: `CMD`, or a line code of a `VW` register. -/
inductive CodeWord where
  | command (w : Word)
  | lineCode (w : LineWord)
deriving DecidableEq, Repr

/-- A command that takes no operand: bit 8 must be 0 (30 R80, R85). -/
def plainCommand (p : BitVec 1) (i : Instr) : Except DecodeError Instr :=
  if p = 0#1 then .ok i else .error .operandNotAllowed

/-- The command a word written to `CMD` stands for (30 R80 to R86). -/
def decodeCommand (c : Word) : Except DecodeError Instr :=
  let op := c.extractLsb' 0 8
  let p := c.extractLsb' 8 1
  let rsv := c.extractLsb' 9 23
  if rsv ≠ 0#23 then .error .reservedBits
  else if op = 0x00#8 then plainCommand p .nop
  else if op = 0x01#8 then plainCommand p .cfg
  else if op = 0x02#8 then plainCommand p .decf
  else if op = 0x03#8 then plainCommand p .vdec
  else if op = 0x04#8 then .ok (.venc p)
  else if op = 0x0F#8 then plainCommand p .srst
  else .error .reservedOpcode

/-- A line code against a row's match and mask (30 R91 to R98). -/
def matchesRow (w mask pattern : LineWord) : Bool := w &&& mask == pattern

/-- The line code a 24-bit word stands for. The sentinels and the status words come first, `TIMECODE` before
`PICNO`, and `CHAPTER` last, so that a word valid in one format is always read in it (30 R94, R96, R100; log 4). -/
def decodeLine (w : LineWord) : Except DecodeError Instr :=
  let n1 := w.extractLsb' 16 4
  let n3 := w.extractLsb' 8 4
  let n4 := w.extractLsb' 4 4
  let n5 := w.extractLsb' 0 4
  if matchesRow w 0xFFFFFF#24 0x88FFFF#24 then .ok .leadin
  else if matchesRow w 0xFFFFFF#24 0x80EEEE#24 then .ok .leadout
  else if matchesRow w 0xFFFFFF#24 0x82CFFF#24 then .ok .stop
  else if matchesRow w 0xFFFFFF#24 0x87FFFF#24 then .ok .clvmark
  else if matchesRow w 0xFFF000#24 0x8DC000#24 then .ok (.statusCxOn n3 n4 n5)
  else if matchesRow w 0xFFF000#24 0x8BA000#24 then .ok (.statusCxOff n3 n4 n5)
  else if matchesRow w 0xF0FF00#24 0xF0DD00#24 then .ok (.timecode n1 n4 n5)
  else if matchesRow w 0xF00000#24 0xF00000#24 then
    .ok (.picno (w.extractLsb' 19 1) (w.extractLsb' 16 3) (w.extractLsb' 12 4) n3 n4 n5)
  else if matchesRow w 0xF0F000#24 0x80E000#24 then .ok (.clvsec n1 n3 n4 n5)
  else if matchesRow w 0xF0F000#24 0x80D000#24 then .ok (.usercode n1 (w.extractLsb' 0 12))
  else if matchesRow w 0xF00FFF#24 0x800DDD#24 then
    .ok (.chapter (w.extractLsb' 19 1) (w.extractLsb' 16 3) (w.extractLsb' 12 4))
  else .error .unrecognisedLine

/-- The instruction a word stands for, by the place it comes from. -/
def decode : CodeWord → Except DecodeError Instr
  | .command w => decodeCommand w
  | .lineCode w => decodeLine w

/-- The word of an instruction, field by field from the most significant one (30 R83, R92 to R98). -/
def encode : Instr → CodeWord
  | .nop => .command 0x00000000#32
  | .cfg => .command 0x00000001#32
  | .decf => .command 0x00000002#32
  | .vdec => .command 0x00000003#32
  | .venc p => .command (0#23 ++ p ++ 0x04#8)
  | .srst => .command 0x0000000F#32
  | .leadin => .lineCode 0x88FFFF#24
  | .leadout => .lineCode 0x80EEEE#24
  | .stop => .lineCode 0x82CFFF#24
  | .clvmark => .lineCode 0x87FFFF#24
  | .picno s19 d4 d3 d2 d1 d0 => .lineCode (0xF#4 ++ s19 ++ d4 ++ d3 ++ d2 ++ d1 ++ d0)
  | .timecode hr mt mu => .lineCode (0xF#4 ++ hr ++ 0xDD#8 ++ mt ++ mu)
  | .chapter c19 ct cu => .lineCode (0x8#4 ++ c19 ++ ct ++ cu ++ 0xDDD#12)
  | .clvsec x1 x3 x4 x5 => .lineCode (0x8#4 ++ x1 ++ 0xE#4 ++ x3 ++ x4 ++ x5)
  | .statusCxOn x3 x4 x5 => .lineCode (0x8DC#12 ++ x3 ++ x4 ++ x5)
  | .statusCxOff x3 x4 x5 => .lineCode (0x8BA#12 ++ x3 ++ x4 ++ x5)
  | .usercode x1 x345 => .lineCode (0x8#4 ++ x1 ++ 0xD#4 ++ x345)

/-- The code word of an opcode-table row of `nbits` bits: 32 for format CMD32, 24 for format VBI24 (30 R101). -/
def tableCodeWord (nbits w : Nat) : Option CodeWord :=
  if nbits = 32 then some (.command (BitVec.ofNat 32 w))
  else if nbits = 24 then some (.lineCode (BitVec.ofNat 24 w))
  else none

/-- The instruction the decoder reads from a table word (none where it rejects it). -/
def decodeTableWord (nbits w : Nat) : Option Instr :=
  match tableCodeWord nbits w with
  | some cw => (decode cw).toOption
  | none => none

end Sys2Proof
end

