-- ==== Sys2Proof/Machine/State.lean ====
section
/-! DEFINITION. The state of LDCORE (10_state.md R20 to R53) as plain data, the host's transactions, the reasons a
step could stop (there are none), and the state after reset (10_state.md R52, 70_reset_and_hazards.md R290). -/

namespace Sys2Proof.Machine

/-- One element of a buffer with its index. LDCORE's smallest addressable unit is the 16-bit element, and "a model
at the level of this spec does not model bytes" (20_memory.md R62; log 9). -/
abbrev Cell := Nat × Sample

/-- The written elements of a buffer, indices strictly rising. An index that is not listed holds no stored value:
what a read of it gives is a free value of Config (log 6, 7, 9). -/
abbrev Memory := List Cell

/-- The error codes of 60_exceptions.md R262. -/
inductive ErrCode where
  | badCommand
  | notConfigured
  | geometryError
  | sizeMismatch
  | phaseIdError
  | palUnsupported
  | levelsError
deriving DecidableEq, Repr

/-- The number that `STATUS.ERR` shows for an error (60 R262). -/
def ErrCode.code : ErrCode → BitVec 8
  | .badCommand => 1#8
  | .notConfigured => 2#8
  | .geometryError => 3#8
  | .sizeMismatch => 4#8
  | .phaseIdError => 5#8
  | .palUnsupported => 6#8
  | .levelsError => 7#8

/-- The stored fields of `STATUS` (10 R23). `PREV_VALID` is not among them: it is the presence of `PREV`
(10 R49; log 12). -/
structure Status where
  configured : Bool
  fault : Bool
  frame3D : Bool
  frameValid : Bool
  err : BitVec 8
deriving DecidableEq, Repr

/-- VideoParameters, staged or active (10 R28, R29, R31). -/
structure VideoParams where
  fieldWidth : BitVec 16
  fieldHeight : BitVec 16
  activeStart : BitVec 16
  activeEnd : BitVec 16
  burstStart : BitVec 16
  burstEnd : BitVec 16
  black : BitVec 16
  white : BitVec 16
  isPal : BitVec 1
deriving DecidableEq, Repr

/-- The Comb Configuration, staged or active (10 R28, R33, R35). -/
structure CombConfig where
  chromaGain : BitVec 10
  flags : BitVec 5
  cnrLevel : BitVec 8
  ynrLevel : BitVec 8
deriving DecidableEq, Repr

/-- The six VBI words `VW[0..5]`, named `w<field><line>` (10 R40). -/
structure VbiWords where
  w116 : LineWord
  w117 : LineWord
  w118 : LineWord
  w216 : LineWord
  w217 : LineWord
  w218 : LineWord
deriving DecidableEq, Repr

/-- The ten record registers `VR_*` (10 R41 to R44). -/
structure VbiRec where
  discType : BitVec 2
  picNo : BitVec 32
  chNo : BitVec 32
  clvHr : BitVec 32
  clvMin : BitVec 32
  clvSec : BitVec 32
  clvPicNo : BitVec 32
  flags : BitVec 13
  sound : BitVec 8
  userCode : BitVec 17
deriving DecidableEq, Repr

/-- The three buffer spaces of the host port (20_memory.md R61). -/
inductive BufSpace where
  | f1
  | f2
  | rgb
deriving DecidableEq, Repr

/-- One event at the boundary of LDCORE: a transaction of the host port (20_memory.md R60, one element each) or the
reset input (70 R290). There is no other way into the block (00_scope.md R8). -/
inductive HostEvent where
  /-- `MemWrite((REG, index), 1, value)`. -/
  | writeReg (index : Nat) (value : Word)
  /-- `MemRead((REG, index), 1)`. -/
  | readReg (index : Nat)
  /-- `MemWrite((space, index), 1, value)` of a buffer space. -/
  | writeBuf (space : BufSpace) (index : Nat) (value : Sample)
  /-- `MemRead((space, index), 1)` of a buffer space. -/
  | readBuf (space : BufSpace) (index : Nat)
  /-- The reset input is asserted (70 R290, R291; log 11). -/
  | resetInput
deriving DecidableEq, Repr

/-- The whole state of one LDCORE instance (10 R20), and the model's own fields after it. -/
structure State where
  status : Status
  errInfo : Word
  vp : VideoParams
  cc : CombConfig
  actVp : VideoParams
  actCc : CombConfig
  f1Len : BitVec 18
  f1Phase : BitVec 3
  f2Len : BitVec 18
  f2Phase : BitVec 3
  frWidth : BitVec 16
  frHeight : BitVec 16
  vw : VbiWords
  vr : VbiRec
  f1 : Memory
  f2 : Memory
  rgb : Memory
  prev : Option FrameBuffer
  /-- `CUR`, between commands any value (70 R304, 93 W4): the number of the free frame it holds, which advances at
  every reset and every `DECF` that completes. `State.curFrame` is the content (log 8). -/
  curEpoch : Nat
  /-- The model's own: counts resets; selects the free values of `F1`, `F2` (log 6). -/
  powerEpoch : Nat
  /-- The model's own: counts the events that make `RGB` unspecified (log 7). -/
  rgbEpoch : Nat
  /-- The model's own: the host's pending events, oldest first (log 1). -/
  host : List HostEvent
  /-- The model's own: the value the last host read returned (log 1). -/
  portData : Word
deriving DecidableEq, Repr

/-- The reasons a step stops with a fault: none. Every state and every transaction has exactly one next state
(70_reset_and_hazards.md R304); the spec's fatal errors are next states (60_exceptions.md R272). Safe (log 19). -/
inductive Fault where
deriving DecidableEq, Repr

/-- The reasons an instruction is refused. -/
inductive Refusal where
  /-- Raised by `exec` alone, for an instruction with no meaning yet; safe. No arm of this model raises it. -/
  | notModelled (mnemonic : String)
deriving DecidableEq, Repr

/-- The outcome of an instruction or a step. -/
abbrev Result := Host.Outcome State Fault Refusal

/-- The disc types of `VR_TYPE` (10 R41). -/
def typeUnknown : BitVec 2 := 0#2

/-- `VR_TYPE` of a CAV disc (10 R41). -/
def typeCav : BitVec 2 := 1#2

/-- `VR_TYPE` of a CLV disc (10 R41). -/
def typeClv : BitVec 2 := 2#2

/-- The value of an absent number in the record, -1 (10 R41). -/
def absent : BitVec 32 := 0xFFFFFFFF#32

/-- `VBI_DEFAULT`, the record that stands for "nothing decoded" (10 R45). -/
def VbiRec.default : VbiRec where
  discType := typeUnknown
  picNo := absent
  chNo := absent
  clvHr := absent
  clvMin := absent
  clvSec := absent
  clvPicNo := absent
  flags := 0#13
  sound := 0xBB#8
  userCode := 0#17

/-- All six VBI words 0 (10 R52). -/
def VbiWords.zero : VbiWords := ⟨0#24, 0#24, 0#24, 0#24, 0#24, 0#24⟩

/-- VideoParameters all 0 (10 R52). -/
def VideoParams.zero : VideoParams := ⟨0#16, 0#16, 0#16, 0#16, 0#16, 0#16, 0#16, 0#16, 0#1⟩

/-- Comb Configuration all 0 (10 R52). -/
def CombConfig.zero : CombConfig := ⟨0#10, 0#5, 0#8, 0#8⟩

/-- The state right after reset (10 R52, 70 R290). -/
def State.reset : State where
  status := ⟨false, false, false, false, 0#8⟩
  errInfo := 0#32
  vp := VideoParams.zero
  cc := CombConfig.zero
  actVp := VideoParams.zero
  actCc := CombConfig.zero
  f1Len := 0#18
  f1Phase := 0#3
  f2Len := 0#18
  f2Phase := 0#3
  frWidth := 0#16
  frHeight := 0#16
  vw := VbiWords.zero
  vr := VbiRec.default
  f1 := []
  f2 := []
  rgb := []
  prev := none
  curEpoch := 0
  powerEpoch := 0
  rgbEpoch := 0
  host := []
  portData := 0#32

end Sys2Proof.Machine
end

