-- ==== Sys2Proof/Machine/Operands.lean ====
section
/-! DEFINITION. The operand forms of LDCORE: the two divisions and the clamp (00_scope.md R12, R13), BCD
(30_encoding.md R91), the fields, validity and value of each line code (R93 to R98), and the active configuration
as the numbers the rules of files 41 to 43 name (10_state.md R31, R33, R35). -/

namespace Sys2Proof.Machine

/-- `fdiv(a, d)`, floor division; `d > 0` in every rule (00 R13). For a positive divisor the quotient of `Int`
division is the floor (log 14 for the other divisors, which no reachable state gives). -/
def fdiv (a d : Int) : Int := a / d

/-- `rdiv(a, d) = fdiv(2 * a + d, 2 * d)`, round half up (00 R13). -/
def rdiv (a d : Int) : Int := fdiv (2 * a + d) (2 * d)

/-- `clamp(v, lo, hi)` (00 R12). -/
def clampInt (v lo hi : Int) : Int := if v < lo then lo else if v > hi then hi else v

/-- A nibble is a BCD digit when its value is 0 to 9 (30 R91). -/
def isBcd (n : BitVec 4) : Bool := n ≤ 9#4

/-- Digit `k` of `v`, as a nibble (30 R91). -/
def bcdDigit (v k : Nat) : BitVec 4 := BitVec.ofNat 4 (v / 10 ^ k % 10)

/-- `BCD2(v)` (30 R91). -/
def bcd2 (v : Nat) : BitVec 8 := bcdDigit v 1 ++ bcdDigit v 0

/-- `BCD5(v)` (30 R91). -/
def bcd5 (v : Nat) : BitVec 20 := bcdDigit v 4 ++ bcdDigit v 3 ++ bcdDigit v 2 ++ bcdDigit v 1 ++ bcdDigit v 0

/-- The value of a `PICNO` word, if it is valid (30 R93, 44 R215). -/
def picnoValue (d4 : BitVec 3) (d3 d2 d1 d0 : BitVec 4) : Option Nat :=
  if isBcd d3 && isBcd d2 && isBcd d1 && isBcd d0 then
    some (10000 * d4.toNat + 1000 * d3.toNat + 100 * d2.toNat + 10 * d1.toNat + d0.toNat)
  else none

/-- Hour and minute of a `TIMECODE` word, if it is valid (30 R94, 44 R216). -/
def timecodeValue (hr mt mu : BitVec 4) : Option (Nat × Nat) :=
  if isBcd hr && decide (mt ≤ 5#4) && isBcd mu then some (hr.toNat, 10 * mt.toNat + mu.toNat) else none

/-- The number of a `CHAPTER` word, if it is valid (30 R95, 44 R218). -/
def chapterValue (ct : BitVec 3) (cu : BitVec 4) : Option Nat :=
  if isBcd cu then some (10 * ct.toNat + cu.toNat) else none

/-- Second and picture-in-second of a `CLVSEC` word, if it is valid (30 R96, 44 R220). -/
def clvsecValue (x1 x3 x4 x5 : BitVec 4) : Option (Nat × Nat) :=
  if decide (10#4 ≤ x1) && isBcd x3 && isBcd x4 && isBcd x5 then
    some (10 * (x1.toNat - 10) + x3.toNat, 10 * x4.toNat + x5.toNat)
  else none

/-- The four digits of a `USERCODE` word, if it is valid (30 R98, 44 R229). -/
def usercodeValue (x1 : BitVec 4) (x345 : BitVec 12) : Option (BitVec 16) :=
  if x1 ≤ 7#4 then some (x1 ++ x345) else none

/-- `LEADIN` (30 R92). -/
def leadinWord : LineWord := 0x88FFFF#24

/-- `LEADOUT` (30 R92). -/
def leadoutWord : LineWord := 0x80EEEE#24

/-- `STOP` (30 R92). -/
def stopWord : LineWord := 0x82CFFF#24

/-- `CLVMARK` (30 R92). -/
def clvmarkWord : LineWord := 0x87FFFF#24

/-- The picture number of a candidate word, or none (44 R215). -/
def picnoOfWord (c : LineWord) : Option Nat :=
  if c &&& 0xF00000#24 = 0xF00000#24 then
    picnoValue (c.extractLsb' 16 3) (c.extractLsb' 12 4) (c.extractLsb' 8 4) (c.extractLsb' 4 4) (c.extractLsb' 0 4)
  else none

/-- The hour and minute of a candidate word, or none (44 R216). -/
def timecodeOfWord (c : LineWord) : Option (Nat × Nat) :=
  if c &&& 0xF0FF00#24 = 0xF0DD00#24 then
    timecodeValue (c.extractLsb' 16 4) (c.extractLsb' 4 4) (c.extractLsb' 0 4)
  else none

/-- The chapter number of a candidate word, or none (44 R218). -/
def chapterOfWord (c : LineWord) : Option Nat :=
  if c &&& 0xF00FFF#24 = 0x800DDD#24 then chapterValue (c.extractLsb' 16 3) (c.extractLsb' 12 4) else none

/-- The second and picture-in-second of a candidate word, or none (44 R220). -/
def clvsecOfWord (c : LineWord) : Option (Nat × Nat) :=
  if c &&& 0xF0F000#24 = 0x80E000#24 then
    clvsecValue (c.extractLsb' 16 4) (c.extractLsb' 8 4) (c.extractLsb' 4 4) (c.extractLsb' 0 4)
  else none

/-- Whether a candidate word is a programme status word, and whether it says CX on (44 R225). -/
def statusOfWord (c : LineWord) : Option Bool :=
  if c &&& 0xFFF000#24 = 0x8DC000#24 then some true
  else if c &&& 0xFFF000#24 = 0x8BA000#24 then some false
  else none

/-- The user code of a candidate word, or none (44 R229). -/
def usercodeOfWord (c : LineWord) : Option (BitVec 16) :=
  if c &&& 0xF0F000#24 = 0x80D000#24 then usercodeValue (c.extractLsb' 16 4) (c.extractLsb' 0 12) else none

/-- The first candidate word, in the order given, that a format accepts (44 R211). -/
def firstValid {α : Type} (format : LineWord → Option α) : List LineWord → Option α
  | [] => none
  | c :: rest =>
    match format c with
    | some v => some v
    | none => firstValid format rest

/-- The active configuration as the numbers that files 41 to 43 name. -/
structure CombParams where
  width : Nat
  height : Nat
  avs : Nat
  ave : Nat
  black : Int
  white : Int
  g : Int
  colorlpf : Bool
  colorlpfHq : Bool
  whitePoint75 : Bool
  use3D : Bool
  showFlow : Bool
  cnr : Int
  ynr : Int
deriving DecidableEq, Repr

/-- `frameHeight = 2 * fieldHeight - 1` (10 R31). -/
def CombParams.frameHeight (c : CombParams) : Nat := 2 * c.height - 1

/-- `W100 = white - black` (00 R17, 10 R31). -/
def CombParams.w100 (c : CombParams) : Int := c.white - c.black

/-- Membership in the active window (00 R16). -/
def CombParams.active (c : CombParams) (y x : Nat) : Bool :=
  decide (Config.fal ≤ y) && decide (y < c.frameHeight) && decide (c.avs ≤ x) && decide (x < c.ave)

/-- `num` of 43 R192: `WP75_NUM` when `whitePoint75`, else 4, both over 4. -/
def CombParams.num (c : CombParams) : Int := if c.whitePoint75 then Config.wp75Num else Config.wp75Den

/-- The numbers of a configuration (10 R33: the five flag bits, the gain, the two levels). -/
def combParams (v : VideoParams) (cc : CombConfig) : CombParams where
  width := v.fieldWidth.toNat
  height := v.fieldHeight.toNat
  avs := v.activeStart.toNat
  ave := v.activeEnd.toNat
  black := v.black.toNat
  white := v.white.toNat
  g := cc.chromaGain.toNat
  colorlpf := cc.flags.getLsbD 0
  colorlpfHq := cc.flags.getLsbD 1
  whitePoint75 := cc.flags.getLsbD 2
  use3D := cc.flags.getLsbD 3
  showFlow := cc.flags.getLsbD 4
  cnr := cc.cnrLevel.toNat
  ynr := cc.ynrLevel.toNat

/-- `GEOM` of VideoParameters: the "subcarrier geometry" (40 R117, 41 R130). -/
def VideoParams.geometry (v : VideoParams) : Geometry := ⟨v.fieldWidth, v.fieldHeight, v.activeStart, v.activeEnd⟩

end Sys2Proof.Machine
end

