-- ==== Sys2Proof/Machine/Flags.lean ====
section
/-! DEFINITION. Every flag of LDCORE: the `STATUS` word (10_state.md R23), the Boolean fields of the VBI record in
`VR_FLAGS` (R42), and the programme status of a line code with its audio tables and its parity
(44_vbi_decode.md R225 to R227). -/

namespace Sys2Proof.Machine

/-- `STATUS.PREV_VALID`: `PREV` holds a frame (10 R23, R49; log 12). -/
def State.prevValid (s : State) : Bool := s.prev.isSome

/-- The `STATUS` register as the host reads it: bits 0 to 4 and `ERR` in 15:8, the rest 0 (10 R23). -/
def State.statusWord (s : State) : Word :=
  0#16 ++ s.status.err ++ 0#3 ++ BitVec.ofBool s.status.frameValid ++ BitVec.ofBool s.status.frame3D
    ++ BitVec.ofBool s.prevValid ++ BitVec.ofBool s.status.fault ++ BitVec.ofBool s.status.configured

/-- Bit `n` of `VR_FLAGS` set to `b` (10 R42). -/
def setFlag (flags : BitVec 13) (n : Nat) (b : Bool) : BitVec 13 :=
  if b then flags ||| (1#13 <<< n) else flags &&& ~~~(1#13 <<< n)

/-- `leadIn`, `VR_FLAGS[0]` (10 R42). -/
def VbiRec.leadIn (r : VbiRec) : Bool := r.flags.getLsbD 0

/-- `leadOut`, `VR_FLAGS[1]` (10 R42). -/
def VbiRec.leadOut (r : VbiRec) : Bool := r.flags.getLsbD 1

/-- `picStop`, `VR_FLAGS[2]` (10 R42). -/
def VbiRec.picStop (r : VbiRec) : Bool := r.flags.getLsbD 2

/-- Steps 2 to 7 of `VDEC` are suppressed, and step 9 runs, when either lead flag is set (44 R210, R214). -/
def VbiRec.leadInOut (r : VbiRec) : Bool := r.leadIn || r.leadOut

/-- `AUD[a]`: (`dump`, `fm`, `soundMode`) of the programme status (44 R227; the sound modes are numbered in
10 R43). -/
def audioTable (a : BitVec 4) : Bool × Bool × BitVec 4 :=
  match a.toNat with
  | 0 => (false, false, 0#4)
  | 1 => (false, false, 1#4)
  | 2 => (false, false, 2#4)
  | 3 => (false, false, 3#4)
  | 4 => (false, true, 4#4)
  | 5 => (false, true, 5#4)
  | 6 => (false, true, 6#4)
  | 7 => (false, true, 7#4)
  | 8 => (true, false, 8#4)
  | 9 => (true, false, 8#4)
  | 10 => (true, false, 11#4)
  | 11 => (true, false, 8#4)
  | 12 => (true, true, 9#4)
  | 13 => (true, true, 9#4)
  | 14 => (true, true, 10#4)
  | _ => (true, true, 10#4)

/-- `AUD2[b]`: `soundModeAm2` of the programme status (44 R227). -/
def audioTableAm2 (b : BitVec 3) : BitVec 4 :=
  match b.toNat with
  | 0 => 0#4
  | 1 => 1#4
  | 3 => 3#4
  | _ => 11#4

/-- `parityOk`: the three even-parity equations over nibble 4 (44 R227). The bits of a nibble are numbered from
its most significant bit (30 R97), so `x41` is bit 3 of `x4`. -/
def parityOk (x4 x5 : BitVec 4) : Bool :=
  let x41 := x4.getLsbD 3
  let x42 := x4.getLsbD 2
  let x43 := x4.getLsbD 1
  let x44 := x4.getLsbD 0
  (x5.getLsbD 3 ^^ x41 ^^ x42 ^^ x44) == false
    && (x5.getLsbD 2 ^^ x41 ^^ x43 ^^ x44) == false
    && (x5.getLsbD 1 ^^ x42 ^^ x43 ^^ x44) == false

/-- `a = 8 * x41 + 4 * x34 + 2 * x42 + x43`, the index of `AUD` (44 R227). -/
def audioIndex (x3 x4 : BitVec 4) : BitVec 4 :=
  BitVec.ofBool (x4.getLsbD 3) ++ BitVec.ofBool (x3.getLsbD 0) ++ BitVec.ofBool (x4.getLsbD 2)
    ++ BitVec.ofBool (x4.getLsbD 1)

/-- `b = 4 * x42 + 2 * x43 + x44`, the index of `AUD2` (44 R227). -/
def audioIndexAm2 (x4 : BitVec 4) : BitVec 3 := x4.extractLsb' 0 3

/-- Bits 12:3 of `VR_FLAGS` from a programme status word: `standardAm2`, `copyAm2`, `parity`, `digital`, `fm`,
`dump`, `teletext`, `side`, `size`, `cx` (44 R225, R226; 10 R42). -/
def statusFlags (cxOn : Bool) (x3 x4 x5 : BitVec 4) : BitVec 10 :=
  let aud := audioTable (audioIndex x3 x4)
  BitVec.ofBool (x4.getLsbD 3) ++ BitVec.ofBool (x3.getLsbD 0) ++ BitVec.ofBool (parityOk x4 x5)
    ++ BitVec.ofBool (x4.getLsbD 3) ++ BitVec.ofBool aud.2.1 ++ BitVec.ofBool aud.1
    ++ BitVec.ofBool (x3.getLsbD 1) ++ BitVec.ofBool (!x3.getLsbD 2) ++ BitVec.ofBool (!x3.getLsbD 3)
    ++ BitVec.ofBool cxOn

/-- `VR_SOUND` from a programme status word: `soundMode` in 3:0, `soundModeAm2` in 7:4 (44 R225, R231). -/
def statusSound (x3 x4 : BitVec 4) : BitVec 8 :=
  audioTableAm2 (audioIndexAm2 x4) ++ (audioTable (audioIndex x3 x4)).2.2

end Sys2Proof.Machine
end

