-- ==== Sys2Proof/Machine/Ops.lean ====
section
/-! DEFINITION. The named operations on the state: the buffers (20_memory.md), the register space (10_state.md R27,
R28), the fatal entry and the refusal under fault (60_exceptions.md R272, 40_commands.md R111), reset
(70_reset_and_hazards.md R290), and the planes of a frame buffer. -/

namespace Sys2Proof.Machine

/-! ### Buffers -/

/-- The stored value of an element, if it is listed (log 9). -/
def Memory.read : Memory → Nat → Option Sample
  | [], _ => none
  | (b, v) :: rest, a => if a = b then some v else Memory.read rest a

/-- The buffer with element `a` holding `v`, indices still rising (log 9). -/
def Memory.write : Memory → Nat → Sample → Memory
  | [], a, v => [(a, v)]
  | (b, w) :: rest, a, v =>
    if a < b then (a, v) :: (b, w) :: rest
    else if a = b then (a, v) :: rest
    else (b, w) :: Memory.write rest a v

/-- Indices rise strictly from `lo` and stay below `cap`. -/
def Memory.wfFrom (cap : Nat) : Nat → Memory → Bool
  | _, [] => true
  | lo, (a, _) :: rest => decide (lo ≤ a) && decide (a < cap) && Memory.wfFrom cap (a + 1) rest

/-- The one canonical form of a buffer of `cap` elements: strictly rising indices below `cap` (log 9). -/
def Memory.wf (cap : Nat) (m : Memory) : Bool := Memory.wfFrom cap 0 m

/-- The buffer whose elements `0 .. n - 1` hold `f`. -/
def Memory.tabulate (n : Nat) (f : Nat → Sample) : Memory := (List.range n).map fun k => (k, f k)

/-- Element `index` of `F1` (`second = false`) or `F2`: what was last written, else a free value (10 R46, 70 R292;
log 6). -/
def State.fieldElem (s : State) (second : Bool) (index : Nat) : Sample :=
  (Memory.read (if second then s.f2 else s.f1) index).getD (Config.freeField s.powerEpoch second index)

/-- Element `index` of `RGB`: the frame while `FRAME_VALID` = 1, else, and beyond the frame, a free value (10 R47,
70 R304; log 7). -/
def State.rgbElem (s : State) (index : Nat) : Sample :=
  if s.status.frameValid then (Memory.read s.rgb index).getD (Config.freeRgb s.rgbEpoch index)
  else Config.freeRgb s.rgbEpoch index

/-- What `CUR` holds between commands: any frame buffer, and no proof may depend on which (70 R304, 93 W4; log 8).
No command reads it: a `DECF` builds its own `CUR`, of which `PREV` is the copy (10 R51, 41 R152). -/
def State.curFrame (s : State) : FrameBuffer := Config.freeFrame s.curEpoch

/-- What a host read of a buffer element returns; out of range it is 0 (20 R61, R73). -/
def State.readBuf (s : State) (space : BufSpace) (index : Nat) : Sample :=
  match space with
  | .f1 => if index < Config.fbufCap then s.fieldElem false index else 0#16
  | .f2 => if index < Config.fbufCap then s.fieldElem true index else 0#16
  | .rgb => if index < Config.rgbCap then s.rgbElem index else 0#16

/-- A host write of a buffer element; out of range, and to `RGB`, it is discarded (20 R61, R73). -/
def State.writeBuf (s : State) (space : BufSpace) (index : Nat) (value : Sample) : State :=
  match space with
  | .f1 => if index < Config.fbufCap then { s with f1 := Memory.write s.f1 index value } else s
  | .f2 => if index < Config.fbufCap then { s with f2 := Memory.write s.f2 index value } else s
  | .rgb => s

/-! ### The register space -/

/-- The nine VideoParameters registers, in index order (10 R28). -/
inductive VpReg where
  | fieldWidth | fieldHeight | activeStart | activeEnd | burstStart | burstEnd | black | white | isPal
deriving DecidableEq, Repr

/-- The four Comb Configuration registers, in index order (10 R28). -/
inductive CcReg where
  | chromaGain | flags | cnrLevel | ynrLevel
deriving DecidableEq, Repr

/-- The six VBI word registers, in index order (10 R28, R40). -/
inductive VwReg where
  | w116 | w117 | w118 | w216 | w217 | w218
deriving DecidableEq, Repr

/-- The ten VBI record registers, in index order (10 R28). -/
inductive VrReg where
  | discType | picNo | chNo | clvHr | clvMin | clvSec | clvPicNo | flags | sound | userCode
deriving DecidableEq, Repr

/-- A register of the map of 10 R28. -/
inductive RegName where
  | cmd | status | errInfo
  | vp (r : VpReg)
  | cc (r : CcReg)
  | f1Len | f1Phase | f2Len | f2Phase
  | frWidth | frHeight
  | vw (r : VwReg)
  | vr (r : VrReg)
  | actVp (r : VpReg)
  | actCc (r : CcReg)
deriving DecidableEq, Repr

/-- The registers with their indices: the map of 10 R28, row by row. -/
def registerMap : List (Nat × RegName) :=
  [(0x00, .cmd), (0x01, .status), (0x02, .errInfo),
   (0x10, .vp .fieldWidth), (0x11, .vp .fieldHeight), (0x12, .vp .activeStart), (0x13, .vp .activeEnd),
   (0x14, .vp .burstStart), (0x15, .vp .burstEnd), (0x16, .vp .black), (0x17, .vp .white), (0x18, .vp .isPal),
   (0x20, .cc .chromaGain), (0x21, .cc .flags), (0x22, .cc .cnrLevel), (0x23, .cc .ynrLevel),
   (0x30, .f1Len), (0x31, .f1Phase), (0x32, .f2Len), (0x33, .f2Phase),
   (0x38, .frWidth), (0x39, .frHeight),
   (0x40, .vw .w116), (0x41, .vw .w117), (0x42, .vw .w118), (0x43, .vw .w216), (0x44, .vw .w217), (0x45, .vw .w218),
   (0x48, .vr .discType), (0x49, .vr .picNo), (0x4A, .vr .chNo), (0x4B, .vr .clvHr), (0x4C, .vr .clvMin),
   (0x4D, .vr .clvSec), (0x4E, .vr .clvPicNo), (0x4F, .vr .flags), (0x50, .vr .sound), (0x51, .vr .userCode)]
  ++
  [(0x60, .actVp .fieldWidth), (0x61, .actVp .fieldHeight), (0x62, .actVp .activeStart), (0x63, .actVp .activeEnd),
   (0x64, .actVp .burstStart), (0x65, .actVp .burstEnd), (0x66, .actVp .black), (0x67, .actVp .white),
   (0x68, .actVp .isPal),
   (0x70, .actCc .chromaGain), (0x71, .actCc .flags), (0x72, .actCc .cnrLevel), (0x73, .actCc .ynrLevel)]

/-- The register at an index, if the map has one there (10 R27, R28). -/
def regAt (index : Nat) : Option RegName := registerMap.lookup index

/-- A VideoParameters register, zero-extended (10 R27). -/
def VideoParams.read (v : VideoParams) : VpReg → Word
  | .fieldWidth => v.fieldWidth.setWidth 32
  | .fieldHeight => v.fieldHeight.setWidth 32
  | .activeStart => v.activeStart.setWidth 32
  | .activeEnd => v.activeEnd.setWidth 32
  | .burstStart => v.burstStart.setWidth 32
  | .burstEnd => v.burstEnd.setWidth 32
  | .black => v.black.setWidth 32
  | .white => v.white.setWidth 32
  | .isPal => v.isPal.setWidth 32

/-- A write of a VideoParameters register keeps the low bits (10 R27). -/
def VideoParams.write (v : VideoParams) (r : VpReg) (x : Word) : VideoParams :=
  match r with
  | .fieldWidth => { v with fieldWidth := x.setWidth 16 }
  | .fieldHeight => { v with fieldHeight := x.setWidth 16 }
  | .activeStart => { v with activeStart := x.setWidth 16 }
  | .activeEnd => { v with activeEnd := x.setWidth 16 }
  | .burstStart => { v with burstStart := x.setWidth 16 }
  | .burstEnd => { v with burstEnd := x.setWidth 16 }
  | .black => { v with black := x.setWidth 16 }
  | .white => { v with white := x.setWidth 16 }
  | .isPal => { v with isPal := x.setWidth 1 }

/-- A Comb Configuration register, zero-extended (10 R27). -/
def CombConfig.read (c : CombConfig) : CcReg → Word
  | .chromaGain => c.chromaGain.setWidth 32
  | .flags => c.flags.setWidth 32
  | .cnrLevel => c.cnrLevel.setWidth 32
  | .ynrLevel => c.ynrLevel.setWidth 32

/-- A write of a Comb Configuration register keeps the low bits (10 R27, R34). -/
def CombConfig.write (c : CombConfig) (r : CcReg) (x : Word) : CombConfig :=
  match r with
  | .chromaGain => { c with chromaGain := x.setWidth 10 }
  | .flags => { c with flags := x.setWidth 5 }
  | .cnrLevel => { c with cnrLevel := x.setWidth 8 }
  | .ynrLevel => { c with ynrLevel := x.setWidth 8 }

/-- A VBI word register, zero-extended (20 R64). -/
def VbiWords.read (v : VbiWords) : VwReg → Word
  | .w116 => v.w116.setWidth 32
  | .w117 => v.w117.setWidth 32
  | .w118 => v.w118.setWidth 32
  | .w216 => v.w216.setWidth 32
  | .w217 => v.w217.setWidth 32
  | .w218 => v.w218.setWidth 32

/-- A write of a VBI word register keeps the low 24 bits (20 R64). -/
def VbiWords.write (v : VbiWords) (r : VwReg) (x : Word) : VbiWords :=
  match r with
  | .w116 => { v with w116 := x.setWidth 24 }
  | .w117 => { v with w117 := x.setWidth 24 }
  | .w118 => { v with w118 := x.setWidth 24 }
  | .w216 => { v with w216 := x.setWidth 24 }
  | .w217 => { v with w217 := x.setWidth 24 }
  | .w218 => { v with w218 := x.setWidth 24 }

/-- A VBI record register; the signed ones are full 32-bit (10 R27). -/
def VbiRec.read (v : VbiRec) : VrReg → Word
  | .discType => v.discType.setWidth 32
  | .picNo => v.picNo
  | .chNo => v.chNo
  | .clvHr => v.clvHr
  | .clvMin => v.clvMin
  | .clvSec => v.clvSec
  | .clvPicNo => v.clvPicNo
  | .flags => v.flags.setWidth 32
  | .sound => v.sound.setWidth 32
  | .userCode => v.userCode.setWidth 32

/-- A write of a VBI record register keeps the low bits (10 R27). -/
def VbiRec.write (v : VbiRec) (r : VrReg) (x : Word) : VbiRec :=
  match r with
  | .discType => { v with discType := x.setWidth 2 }
  | .picNo => { v with picNo := x }
  | .chNo => { v with chNo := x }
  | .clvHr => { v with clvHr := x }
  | .clvMin => { v with clvMin := x }
  | .clvSec => { v with clvSec := x }
  | .clvPicNo => { v with clvPicNo := x }
  | .flags => { v with flags := x.setWidth 13 }
  | .sound => { v with sound := x.setWidth 8 }
  | .userCode => { v with userCode := x.setWidth 17 }

/-- What a read of a named register gives; `CMD` is write-only and reads 0 (10 R22, R27). -/
def State.readNamed (s : State) : RegName → Word
  | .cmd => 0#32
  | .status => s.statusWord
  | .errInfo => s.errInfo
  | .vp r => s.vp.read r
  | .cc r => s.cc.read r
  | .f1Len => s.f1Len.setWidth 32
  | .f1Phase => s.f1Phase.setWidth 32
  | .f2Len => s.f2Len.setWidth 32
  | .f2Phase => s.f2Phase.setWidth 32
  | .frWidth => s.frWidth.setWidth 32
  | .frHeight => s.frHeight.setWidth 32
  | .vw r => s.vw.read r
  | .vr r => s.vr.read r
  | .actVp r => s.actVp.read r
  | .actCc r => s.actCc.read r

/-- What a host read at a register index gives; an index outside the map reads 0 (10 R27, 20 R70). -/
def State.readReg (s : State) (index : Nat) : Word :=
  match regAt index with
  | some r => s.readNamed r
  | none => 0#32

/-- A host write of a named register other than `CMD`: a read-only register is left as it is (10 R27). The write of
`CMD` runs a command (40 R110) and is not an access of this operation. -/
def State.writeNamed (s : State) (r : RegName) (x : Word) : State :=
  match r with
  | .cmd => s
  | .status => s
  | .errInfo => s
  | .vp r => { s with vp := s.vp.write r x }
  | .cc r => { s with cc := s.cc.write r x }
  | .f1Len => { s with f1Len := x.setWidth 18 }
  | .f1Phase => { s with f1Phase := x.setWidth 3 }
  | .f2Len => { s with f2Len := x.setWidth 18 }
  | .f2Phase => { s with f2Phase := x.setWidth 3 }
  | .frWidth => s
  | .frHeight => s
  | .vw r => { s with vw := s.vw.write r x }
  | .vr r => { s with vr := s.vr.write r x }
  | .actVp _ => s
  | .actCc _ => s

/-! ### Fatal entry, refusal under fault, reset -/

/-- The fatal entry `raise E(info)`: `FAULT`, `ERR` and `ERRINFO` are written and nothing else (60 R272). There is
no saved counter, vector or handler, and the return is `SRST` or the reset input (60 R274). -/
def State.raise (s : State) (e : ErrCode) (info : Word) : State :=
  { s with status := { s.status with fault := true, err := e.code }, errInfo := info }

/-- Refusal under fault: while `FAULT` = 1 a command changes no state whatever (40 R111). -/
def unlessFault (s : State) (run : State → Result) : Result := if s.status.fault then .next s else run s

/-- Reset, by `SRST` or the reset input: every piece of state takes its reset value; the buffers become unspecified
anew, so the three counters advance; the host's queue and its last read value are the host's, not the block's (10 R52, 70
R290, 40 R119; log 1, 6, 7, 8, 11). -/
def State.powerReset (s : State) : State :=
  { State.reset with
    curEpoch := s.curEpoch + 1
    powerEpoch := s.powerEpoch + 1
    rgbEpoch := s.rgbEpoch + 1
    host := s.host
    portData := s.portData }

/-! ### Planes -/

/-- Element `[y][x]` of a plane; outside the frame it is 0, as the clearing of 41 R130 leaves it (log 13). -/
def planeAt (p : Plane) (y x : Nat) : Int := (p.getD y []).getD x 0

/-- The plane of `h` lines of `w` columns whose element `[y][x]` is `f y x`. -/
def planeTabulate (h w : Nat) (f : Nat → Nat → Int) : Plane :=
  (List.range h).map fun y => (List.range w).map fun x => f y x

/-- A plane that holds `f` on the active window and 0 outside it (41 R130, R137). -/
def activePlane (c : CombParams) (f : Nat → Nat → Int) : Plane :=
  planeTabulate c.frameHeight c.width fun y x => if c.active y x then f y x else 0

end Sys2Proof.Machine
end

