-- ==== Sys2Proof/Machine/Comb.lean ====
section
/-! DEFINITION. `DECF`, stages 1 and 2: frame assembly, phase identification, and the 1D, 2D and 3D cross-colour
separation (41_comb_separation.md R130 to R147). Every formula is on exact integers (00_scope.md R12). -/

namespace Sys2Proof.Machine

/-- Frame assembly: the first field on the even frame lines, the second on the odd ones (41 R132). -/
def rawPlane (c : CombParams) (field1 field2 : Nat → Int) : Plane :=
  planeTabulate c.frameHeight c.width fun y x =>
    if y % 2 = 0 then field1 (y / 2 * c.width + x) else field2 ((y - 1) / 2 * c.width + x)

/-- `posEven(id)` (41 R134). -/
def posEven (id : BitVec 3) : Bool := id == 1#3 || id == 4#3

/-- `linePhase(B, y)`, from the two phase IDs of the frame buffer (41 R134). -/
def linePhase (p1 p2 : BitVec 3) (y : Nat) : Bool :=
  let id := if y % 2 = 0 then p1 else p2
  if y / 2 % 2 = 0 then posEven id else !posEven id

/-- `sigma(B, y)`, the sign of the subcarrier on the line (41 R134). -/
def sigma (p1 p2 : BitVec 3) (y : Nat) : Int := if linePhase p1 p2 y then 1 else -1

/-- The 1D estimate of a pixel, the horizontal notch: a quarter of the sum, in units of 1/16 LSB (41 R136). -/
def clp1D (raw : Plane) (y x : Nat) : Int :=
  Config.lsb / 4 * (2 * planeAt raw y x - planeAt raw y (x - 2) - planeAt raw y (x + 2))

/-- `CUR.CLP[0]` (41 R136, R137). -/
def clp0Plane (c : CombParams) (raw : Plane) : Plane := activePlane c (clp1D raw)

/-- Whether a line has both same-field neighbours inside the processed lines: `sepMode(y) = 2` (41 R138, R139). -/
def has2D (c : CombParams) (y : Nat) : Bool := decide (Config.fal + 2 ≤ y) && decide (y + 2 < c.frameHeight)

/-- The 2D estimate of a pixel from the 1D estimates of its line and of its two neighbours (41 R138). -/
def clp2D (clp0 : Plane) (y x : Nat) : Int := fdiv (2 * planeAt clp0 y x - planeAt clp0 (y - 2) x - planeAt clp0 (y + 2) x) 4

/-- `CUR.CLP[1]`: the 2D estimate, or the 1D estimate on a line without both neighbours (41 R138, R139). -/
def clp1Plane (c : CombParams) (clp0 : Plane) : Plane :=
  activePlane c fun y x => if has2D c y then clp2D clp0 y x else planeAt clp0 y x

/-- `use3` as data: the previous frame that the 3D strategy may use, or none (41 R140, R141). -/
def reference3D (c : CombParams) (geom : Geometry) (p1 p2 : BitVec 3) : Option FrameBuffer → Option FrameBuffer
  | some prev =>
    if c.use3D && prev.geom == geom && posEven prev.p1 != posEven p1 && posEven prev.p2 != posEven p2 then some prev
    else none
  | none => none

/-- The 3D estimate of a pixel: half the difference, in units of 1/16 LSB (41 R143). -/
def clp3D (raw prevRaw : Plane) (y x : Nat) : Int := Config.lsb / 2 * (planeAt raw y x - planeAt prevRaw y x)

/-- `CUR.CLP[2]`, all 0 when 3D is not used (41 R141, R143). -/
def clp2Plane (c : CombParams) (raw : Plane) : Option FrameBuffer → Plane
  | some prev => activePlane c (clp3D raw prev.raw)
  | none => activePlane c fun _ _ => 0

/-- Four times the chroma-free luma at a pixel: `lc`, `lp` of 41 R145. -/
def luma4 (raw : Plane) (y x : Nat) : Int := planeAt raw y (x - 2) + 2 * planeAt raw y x + planeAt raw y (x + 2)

/-- `d` of 41 R145, the luma difference of the two frames at a pixel. -/
def lumaDiff (raw prevRaw : Plane) (y x : Nat) : Int := (luma4 raw y x - luma4 prevRaw y x).natAbs

/-- The confidence K for a luma difference `d` (41 R145). -/
def confidence (c : CombParams) (d : Int) : Int := 256 - min 256 (fdiv (6400 * d) (Config.kRangeIre * c.w100))

/-- `CUR.KV`, all 0 when 3D is not used (41 R141, R145). -/
def kvPlane (c : CombParams) (raw : Plane) : Option FrameBuffer → Plane
  | some prev => activePlane c fun y x => confidence c (lumaDiff raw prev.raw y x)
  | none => activePlane c fun _ _ => 0

/-- The blend of the 3D and the 2D estimate by K (41 R147). -/
def blend (k e3 e2 : Int) : Int := fdiv (k * e3 + (256 - k) * e2) 256

/-- `CSEL(y, x)`, the estimate handed to demodulation (41 R147). -/
def cselAt (clp1 clp2 kv : Plane) (use3 : Bool) (y x : Nat) : Int :=
  if use3 then blend (planeAt kv y x) (planeAt clp2 y x) (planeAt clp1 y x) else planeAt clp1 y x

end Sys2Proof.Machine
end

