-- ==== Sys2Proof/Machine/Demod.lean ====
section
/-! DEFINITION. `DECF`, stages 3 to 6: IQ demodulation, chroma low-pass, noise reduction, luma adjustment
(42_iq_demod_filters.md R160 to R177). -/

namespace Sys2Proof.Machine

/-! ### Stage 3 -/

/-- One column of the demodulation: the column updates one of `si`, `sq` and holds the other (42 R160). -/
def demodStep (s : Int) (x : Nat) (c : Int) (held : Int × Int) : Int × Int :=
  match x % 4 with
  | 0 => (held.1, s * c)
  | 1 => (-s * c, held.2)
  | 2 => (held.1, -s * c)
  | _ => (s * c, held.2)

/-- The `(i, q)` pairs of a line from column `x` on, given the values held so far (42 R160). -/
def demodFrom (s : Int) : Nat → Int × Int → List Int → List (Int × Int)
  | _, _, [] => []
  | x, held, c :: rest => demodStep s x c held :: demodFrom s (x + 1) (demodStep s x c held) rest

/-- A demodulated line: nothing is held at its start (42 R160). The list begins at column `avs`. -/
def demodLine (c : CombParams) (s : Int) (csel : Nat → Int) : List (Int × Int) :=
  demodFrom s c.avs (0, 0) ((List.range (c.ave - c.avs)).map fun k => csel (c.avs + k))

/-- The demodulated lines of the frame (42 R160). -/
def demodLines (c : CombParams) (p1 p2 : BitVec 3) (csel : Nat → Nat → Int) : List (List (Int × Int)) :=
  (List.range c.frameHeight).map fun y => demodLine c (sigma p1 p2 y) (csel y)

/-- The pair of a pixel of the active window. -/
def iqAt (c : CombParams) (lines : List (List (Int × Int))) (y x : Nat) : Int × Int :=
  (lines.getD y []).getD (x - c.avs) (0, 0)

/-- `YIQ.i` after stage 3. -/
def demodI (c : CombParams) (lines : List (List (Int × Int))) : Plane := activePlane c fun y x => (iqAt c lines y x).1

/-- `YIQ.q` after stage 3. -/
def demodQ (c : CombParams) (lines : List (List (Int × Int))) : Plane := activePlane c fun y x => (iqAt c lines y x).2

/-- `YIQ.y` after stage 3: the composite sample in Q.4, subcarrier and all (42 R160, R161). -/
def demodY (c : CombParams) (raw : Plane) : Plane := activePlane c fun y x => Config.lsb * planeAt raw y x

/-! ### Filters of a line (42 R164): a filter reads the plane as it stood at the start of its stage. -/

/-- `at(v, y, x)`: the channel read with edge replication (42 R164). -/
def edgeAt (c : CombParams) (v : Plane) (y : Nat) (x : Int) : Int :=
  planeAt v y (clampInt x c.avs (c.ave - 1)).toNat

/-- The weighted sum of a tap list centred on column `x` (42 R166, R170). -/
def tapSum (c : CombParams) (taps : List Int) (v : Plane) (y x : Nat) : Int :=
  (taps.zipIdx.map fun t => t.1 * edgeAt c v y ((x : Int) - ((taps.length - 1) / 2 : Nat) + (t.2 : Nat))).sum

/-- `fir(T, v, y, x)` (42 R166). -/
def fir (c : CombParams) (taps : List Int) (v : Plane) (y x : Nat) : Int := rdiv (tapSum c taps v y x) taps.sum

/-! ### Stage 4 -/

/-- `YIQ.i` after the chroma low-pass (42 R165). -/
def lowpassI (c : CombParams) (i : Plane) : Plane :=
  if c.colorlpf then activePlane c (fir c Config.firI i) else i

/-- `YIQ.q` after the chroma low-pass: the wide filter when `colorlpf_hq`, else the narrow one (42 R165). -/
def lowpassQ (c : CombParams) (q : Plane) : Plane :=
  if c.colorlpf then activePlane c (fir c (if c.colorlpfHq then Config.firI else Config.firQ) q) else q

/-! ### Stage 5 -/

/-- `hp(v, y, x)`, the high-pass of the noise reducers (42 R170). -/
def highPass (c : CombParams) (v : Plane) (y x : Nat) : Int := rdiv (tapSum c Config.nrHp v y x) Config.nrHpDiv

/-- `core(v, y, x, T)` (42 R170). -/
def coreFilter (c : CombParams) (v : Plane) (t : Int) (y x : Nat) : Int := planeAt v y x - clampInt (highPass c v y x) (-t) t

/-- `Tc`, `Ty`: a level of `level / 2 ^ NR_FRAC` IRE in units of 1/16 LSB; with `FRAC` = `NR_FRAC` it is
`fdiv(level * W100, 100)` (42 R171). -/
def threshold (c : CombParams) (level : Int) : Int :=
  fdiv (level * c.w100 * Config.lsb) (100 * Config.unitIre)

/-- `doCNR` on one chroma channel; level 0 skips the stage (42 R172). -/
def doCNR (c : CombParams) (v : Plane) : Plane :=
  if c.cnr = 0 then v else activePlane c (coreFilter c v (threshold c c.cnr))

/-- `doYNR` on the luma channel; level 0 skips the stage (42 R173). -/
def doYNR (c : CombParams) (v : Plane) : Plane :=
  if c.ynr = 0 then v else activePlane c (coreFilter c v (threshold c c.ynr))

/-! ### Stage 6 -/

/-- `comp`: the chroma re-modulated onto the subcarrier (42 R176). -/
def remodulate (s : Int) (x : Nat) (i q : Int) : Int :=
  match x % 4 with
  | 0 => s * q
  | 1 => -s * i
  | 2 => -s * q
  | _ => s * i

/-- `adjustY` (42 R176). -/
def adjustY (c : CombParams) (p1 p2 : BitVec 3) (yv i q : Plane) : Plane :=
  activePlane c fun y x => planeAt yv y x - remodulate (sigma p1 p2 y) x (planeAt i y x) (planeAt q y x)

end Sys2Proof.Machine
end

