-- ==== Sys2Proof/Machine/Rgb.lean ====
section
/-! DEFINITION. `DECF`, stages 7 and 8: YIQ to RGB conversion and the debug overlay (43_rgb_xform.md R190 to
R197). -/

namespace Sys2Proof.Machine

/-- A pixel: red, green, blue, each in 0..65535. -/
structure Pixel where
  r : Int
  g : Int
  b : Int
deriving DecidableEq, Repr

/-- A black pixel (43 R190). -/
def Pixel.black : Pixel := ⟨0, 0, 0⟩

/-- Component `k` of a pixel: 0 red, 1 green, 2 blue (10 R47). -/
def Pixel.comp (p : Pixel) (k : Nat) : Int :=
  match k with
  | 0 => p.r
  | 1 => p.g
  | _ => p.b

/-- `lumaScale(v)` (43 R192). -/
def lumaScale (c : CombParams) (v : Int) : Int :=
  clampInt (rdiv ((v - Config.lsb * c.black) * 65535 * c.num) (Config.wp75Den * Config.lsb * c.w100)) 0 65535

/-- `chromaScale(v)`, signed and not clamped (43 R193). -/
def chromaScale (c : CombParams) (v : Int) : Int :=
  rdiv (v * 65535 * c.num * c.g) (Config.wp75Den * Config.lsb * c.w100 * Config.unitGain)

/-- One component of `matrix(yS, iS, qS)` (43 R194). -/
def matrixRow (row : Config.MatrixRow) (yS iS qS : Int) : Int :=
  clampInt (yS + rdiv (row.ci * iS + row.cq * qS) Config.mDiv) 0 65535

/-- `matrix(yS, iS, qS)` (43 R194). -/
def matrix (yS iS qS : Int) : Pixel :=
  ⟨matrixRow Config.mRed yS iS qS, matrixRow Config.mGreen yS iS qS, matrixRow Config.mBlue yS iS qS⟩

/-- The conversion of one YIQ triple (43 R190). -/
def yiqToRgb (c : CombParams) (y i q : Int) : Pixel := matrix (lumaScale c y) (chromaScale c i) (chromaScale c q)

/-- A pixel of the frame after stage 7: black outside the active window (43 R190). -/
def convertedPixel (c : CombParams) (f : FrameBuffer) (y x : Nat) : Pixel :=
  if c.active y x then yiqToRgb c (planeAt f.yiqY y x) (planeAt f.yiqI y x) (planeAt f.yiqQ y x) else Pixel.black

/-- The colour of an overlay pixel of confidence `k` (43 R196). -/
def overlayColour (k : Int) : Pixel := ⟨65535, 255 * k, 255 * k⟩

/-- A pixel of the frame after stage 8: an active pixel with K < 256 is painted when the overlay runs, every other
pixel is left alone (43 R196). -/
def framePixel (c : CombParams) (use3 : Bool) (f : FrameBuffer) (y x : Nat) : Pixel :=
  if c.showFlow && use3 && c.active y x && decide (planeAt f.kv y x < 256) then overlayColour (planeAt f.kv y x)
  else convertedPixel c f y x

/-- Element `k` of the frame in `RGB`: component `k mod 3` of pixel `k / 3`, row-major (10 R47). -/
def frameElem (c : CombParams) (use3 : Bool) (f : FrameBuffer) (k : Nat) : Sample :=
  BitVec.ofInt 16 ((framePixel c use3 f (k / 3 / c.width) (k / 3 % c.width)).comp (k % 3))

/-- The frame: elements `0 .. frameHeight * fieldWidth * 3 - 1` (43 R199). -/
def frameMemory (c : CombParams) (use3 : Bool) (f : FrameBuffer) : Memory :=
  Memory.tabulate (c.frameHeight * c.width * 3) (frameElem c use3 f)

end Sys2Proof.Machine
end

