-- ==== Sys2Proof/Machine/Decf.lean ====
section
/-! DEFINITION. The command `DECF`: its checks, its stages in order, its completion (41_comb_separation.md R130,
R131, R152; 43_rgb_xform.md R199). -/

namespace Sys2Proof.Machine

/-- The numbers `DECF` reads: the active configuration (10 R31, R35). -/
def State.params (s : State) : CombParams := combParams s.actVp s.actCc

/-- `STATUS.FRAME_VALID <- 0`, the first line of `DECF`; `RGB` becomes unspecified with it (41 R130, 10 R47;
log 7). -/
def State.beginDecf (s : State) : State :=
  { s with status := { s.status with frameValid := false }, rgbEpoch := s.rgbEpoch + 1 }

/-- A phase ID in 1..4 (41 R131, R133). -/
def legalPhase (id : BitVec 3) : Bool := decide (1 ≤ id.toNat) && decide (id.toNat ≤ 4)

/-- The first precondition of `DECF` that fails, in the order of 41 R131, with the error and its `ERRINFO`; none if
all six hold. -/
def decfViolation (s : State) : Option (ErrCode × Word) :=
  let n := s.actVp.fieldWidth.toNat * s.actVp.fieldHeight.toNat
  if !s.status.configured then some (.notConfigured, 0#32)
  else if s.actVp.isPal ≠ 0#1 then some (.palUnsupported, 0#32)
  else if s.f1Len.toNat ≠ n then some (.sizeMismatch, s.f1Len.setWidth 32)
  else if s.f2Len.toNat ≠ n then some (.sizeMismatch, 0x80000000#32 ||| s.f2Len.setWidth 32)
  else if !legalPhase s.f1Phase then some (.phaseIdError, s.f1Phase.setWidth 32)
  else if !legalPhase s.f2Phase then some (.phaseIdError, 0x80000000#32 ||| s.f2Phase.setWidth 32)
  else none

/-- The frame buffer `DECF` builds from two fields, their phase IDs and the reference frame of the 3D strategy: the
stages 1 to 6 in the source's order (41 R130; 42_iq_demod_filters.md). -/
def buildFrame (c : CombParams) (geom : Geometry) (p1 p2 : BitVec 3) (field1 field2 : Nat → Int)
    (ref : Option FrameBuffer) : FrameBuffer :=
  let raw := rawPlane c field1 field2
  let clp0 := clp0Plane c raw
  let clp1 := clp1Plane c clp0
  let clp2 := clp2Plane c raw ref
  let kv := kvPlane c raw ref
  let lines := demodLines c p1 p2 (cselAt clp1 clp2 kv ref.isSome)
  let i := doCNR c (lowpassI c (demodI c lines))
  let q := doCNR c (lowpassQ c (demodQ c lines))
  let y := adjustY c p1 p2 (doYNR c (demodY c raw)) i q
  { raw := raw, clp0 := clp0, clp1 := clp1, clp2 := clp2, kv := kv, yiqY := y, yiqI := i, yiqQ := q,
    p1 := p1, p2 := p2, geom := geom }

/-- The previous frame that this `DECF` uses for 3D, or none: `use3` of 41 R140. -/
def State.reference (s : State) : Option FrameBuffer :=
  reference3D s.params s.actVp.geometry s.f1Phase s.f2Phase s.prev

/-- The frame buffer a `DECF` at this state builds: `CUR` while the command runs (41 R130). -/
def State.builtFrame (s : State) : FrameBuffer :=
  buildFrame s.params s.actVp.geometry s.f1Phase s.f2Phase
    (fun k => (s.fieldElem false k).toNat) (fun k => (s.fieldElem true k).toNat) s.reference

/-- Stages 7 and 8 and the completion of a successful `DECF`, one atomic update (43 R190, R196, R199; 41 R152).
`PREV` takes the frame buffer built; what `CUR` holds once the command is done is any value (70 R304; log 8). -/
def State.completeDecf (s : State) : State :=
  { s with
    curEpoch := s.curEpoch + 1
    prev := some s.builtFrame
    rgb := frameMemory s.params s.reference.isSome s.builtFrame
    frWidth := s.actVp.fieldWidth
    frHeight := BitVec.ofNat 16 s.params.frameHeight
    status := { s.status with frame3D := s.reference.isSome, frameValid := true } }

/-- `DECF` (41 R130). -/
def execDecf (s : State) : Result :=
  unlessFault s fun s =>
    match decfViolation s.beginDecf with
    | some (e, info) => .next (s.beginDecf.raise e info)
    | none => .next s.beginDecf.completeDecf

end Sys2Proof.Machine
end

