-- ==== Sys2Proof/Machine/System.lean ====
section
/-! DEFINITION. The commands `NOP`, `CFG` and `SRST` (40_commands.md R112 to R119). -/

namespace Sys2Proof.Machine

/-- `NOP`: no effect; refused under fault, "which is indistinguishable from its execution" (40 R112). -/
def execNop (s : State) : Result := unlessFault s fun s => .next s

/-- The first condition of 40 R116 that VideoParameters violate, in its order, with the error and its `ERRINFO`;
none if all four hold. -/
def cfgViolation (v : VideoParams) : Option (ErrCode × Word) :=
  let w := v.fieldWidth.toNat
  let h := v.fieldHeight.toNat
  if !(decide (5 ≤ w) && decide (w ≤ Config.maxCols)) then
    some (.geometryError, 0x00010000#32 ||| v.fieldWidth.setWidth 32)
  else if !(decide (1 ≤ h) && decide (2 * h - 1 ≤ Config.maxLines) && decide (Config.fal < 2 * h - 1)) then
    some (.geometryError, 0x00020000#32 ||| v.fieldHeight.setWidth 32)
  else if !(decide (2 ≤ v.activeStart.toNat) && decide (v.activeStart.toNat < v.activeEnd.toNat)
      && decide (v.activeEnd.toNat + 2 ≤ w)) then
    some (.geometryError, 0x00030000#32 ||| v.activeStart.setWidth 32)
  else if !(decide (v.black.toNat < v.white.toNat)) then
    some (.levelsError, (v.white ++ v.black : BitVec 32))
  else none

/-- Invalidation of the previous frame: it is kept only if its geometry is the staged one (40 R117). -/
def keepPrev (g : Geometry) : Option FrameBuffer → Option FrameBuffer
  | some f => if f.geom = g then some f else none
  | none => none

/-- The latch of a successful `CFG` (40 R114), after the invalidation of R117. `RGB` becomes unspecified with
`FRAME_VALID` (10 R47; log 7). -/
def State.latchConfig (s : State) : State :=
  { s with
    actVp := s.vp
    actCc := s.cc
    prev := keepPrev s.vp.geometry s.prev
    status := { s.status with configured := true, frameValid := false }
    rgbEpoch := s.rgbEpoch + 1 }

/-- `CFG`: the checks of 40 R116, then R117 and R114; a failing `CFG` raises its error and latches nothing (40
R113, R115, R118). -/
def execCfg (s : State) : Result :=
  unlessFault s fun s =>
    match cfgViolation s.vp with
    | some (e, info) => .next (s.raise e info)
    | none => .next s.latchConfig

/-- `SRST`: reset, accepted under fault too (40 R119). -/
def execSrst (s : State) : Result := .next s.powerReset

end Sys2Proof.Machine
end

