-- ==== Sys2Proof/Machine/VbiLines.lean ====
section
/-! DEFINITION. The eleven VBI line codes as instructions (30_encoding.md R92 to R98). The meaning of a line code is
the effect on the record that the step of `VDEC` which looks for its format gives it, with the condition of that step
(44_vbi_decode.md R211) and the validity condition of the format; which of the six words a format is looked for on
belongs to `VDEC`, not to the format (30 R100). A line code is data of `VDEC` and no command (00_scope.md R2): a step
runs it only inside `VDEC`, whose steps apply the same effects on the record, and it is refused under fault as `VDEC`
is (40 R111). Log 3, 15. -/

namespace Sys2Proof.Machine

/-- A line code rewrites the record and nothing else, unless the block is in the fault state. -/
def recordStep (s : State) (f : VbiRec → VbiRec) : Result := unlessFault s fun s => .next { s with vr := f s.vr }

/-- Step 4, the disc type, given whether the CLV marker is present (44 R217). -/
def VbiRec.settleType (r : VbiRec) (marker : Bool) : VbiRec :=
  { r with
    discType :=
      if r.picNo ≠ absent then typeCav else if r.clvHr ≠ absent ∨ marker = true then typeClv else typeUnknown }

/-- The record with its programme status read from a status word (44 R225). -/
def VbiRec.withStatus (r : VbiRec) (cxOn : Bool) (x3 x4 x5 : BitVec 4) : VbiRec :=
  { r with flags := statusFlags cxOn x3 x4 x5 ++ r.flags.extractLsb' 0 3, sound := statusSound x3 x4 }

/-- A picture number found in step 2 (44 R215). -/
def VbiRec.withPicno (r : VbiRec) (n : Nat) : VbiRec := { r with picNo := BitVec.ofNat 32 n }

/-- A time code found in step 3 (44 R216). -/
def VbiRec.withTimecode (r : VbiRec) (t : Nat × Nat) : VbiRec :=
  { r with clvHr := BitVec.ofNat 32 t.1, clvMin := BitVec.ofNat 32 t.2 }

/-- A chapter number found in step 5 (44 R218). -/
def VbiRec.withChapter (r : VbiRec) (n : Nat) : VbiRec := { r with chNo := BitVec.ofNat 32 n }

/-- A user code found in step 9, with `ucValid` (44 R229). -/
def VbiRec.withUsercode (r : VbiRec) (uc : BitVec 16) : VbiRec := { r with userCode := 1#1 ++ uc }

/-- Flag `n` of the record set if `found`: `leadIn` 0, `leadOut` 1, `picStop` 2 (44 R213, R219). -/
def VbiRec.markIf (r : VbiRec) (n : Nat) (found : Bool) : VbiRec :=
  if found then { r with flags := setFlag r.flags n true } else r

/-- A second and picture-in-second found in step 7 (44 R220). -/
def VbiRec.withClvsec (r : VbiRec) (t : Nat × Nat) : VbiRec :=
  { r with clvSec := BitVec.ofNat 32 t.1, clvPicNo := BitVec.ofNat 32 t.2 }

/-- A step that runs in neither lead-in nor lead-out (44 R211, R214). -/
def VbiRec.unlessLead (r : VbiRec) (f : VbiRec → VbiRec) : VbiRec := if r.leadInOut then r else f r

/-- The record with a found value applied; a word that fails its validity carries nothing (30 R99). -/
def VbiRec.applyFound {α : Type} (r : VbiRec) (found : Option α) (f : VbiRec → α → VbiRec) : VbiRec :=
  match found with
  | some v => f r v
  | none => r

/-- `LEADIN`: `leadIn <- 1` (44 R213). -/
def execLeadin (s : State) : Result := recordStep s fun r => r.markIf 0 true

/-- `LEADOUT`: `leadOut <- 1` (44 R213). -/
def execLeadout (s : State) : Result := recordStep s fun r => r.markIf 1 true

/-- `STOP`: `picStop <- 1`, whatever the type (44 R219). -/
def execStop (s : State) : Result := recordStep s fun r => r.unlessLead fun r => r.markIf 2 true

/-- `CLVMARK`: the type is settled with the marker present (44 R217). -/
def execClvmark (s : State) : Result := recordStep s fun r => r.unlessLead fun r => r.settleType true

/-- `PICNO`: the picture number, and type CAV with it; bit 19 is not examined (44 R215, R217). -/
def execPicno (_s19 : BitVec 1) (d4 : BitVec 3) (d3 d2 d1 d0 : BitVec 4) (s : State) : Result :=
  recordStep s fun r => r.unlessLead fun r =>
    r.applyFound (picnoValue d4 d3 d2 d1 d0) fun r n => (r.withPicno n).settleType false

/-- `TIMECODE`: hour and minute, only when no picture number was found (44 R216, R217). -/
def execTimecode (hr mt mu : BitVec 4) (s : State) : Result :=
  recordStep s fun r => r.unlessLead fun r =>
    if r.picNo = absent then r.applyFound (timecodeValue hr mt mu) fun r t => (r.withTimecode t).settleType false else r

/-- `CHAPTER`: the chapter number; bit 19 is ignored (44 R218). -/
def execChapter (_c19 : BitVec 1) (ct : BitVec 3) (cu : BitVec 4) (s : State) : Result :=
  recordStep s fun r => r.unlessLead fun r => r.applyFound (chapterValue ct cu) VbiRec.withChapter

/-- `CLVSEC`: second and picture-in-second, whatever the type (44 R220). -/
def execClvsec (x1 x3 x4 x5 : BitVec 4) (s : State) : Result :=
  recordStep s fun r => r.unlessLead fun r => r.applyFound (clvsecValue x1 x3 x4 x5) VbiRec.withClvsec

/-- The programme status word with CX on, always read (44 R225). -/
def execStatusCxOn (x3 x4 x5 : BitVec 4) (s : State) : Result := recordStep s fun r => r.withStatus true x3 x4 x5

/-- The programme status word with CX off, always read (44 R225). -/
def execStatusCxOff (x3 x4 x5 : BitVec 4) (s : State) : Result := recordStep s fun r => r.withStatus false x3 x4 x5

/-- `USERCODE`: the four digits, only in lead-in or lead-out (44 R229). -/
def execUsercode (x1 : BitVec 4) (x345 : BitVec 12) (s : State) : Result :=
  recordStep s fun r =>
    if r.leadInOut then r.applyFound (usercodeValue x1 x345) VbiRec.withUsercode else r

end Sys2Proof.Machine
end

