-- ==== Sys2Proof/Machine/VbiDecode.lean ====
section
/-! DEFINITION. The command `VDEC`: the decision sequence over the six VBI words (44_vbi_decode.md R210 to R231). -/

namespace Sys2Proof.Machine

/-- The four words of lines 17 and 18 hold a word (44 R213). -/
def VbiWords.lines1718Hold (w : VbiWords) (c : LineWord) : Bool :=
  w.w117 == c || w.w118 == c || w.w217 == c || w.w218 == c

/-- Step 1: the lead-in and lead-out sentinels (44 R213). -/
def vdecLead (w : VbiWords) (r : VbiRec) : VbiRec :=
  (r.markIf 0 (w.lines1718Hold leadinWord)).markIf 1 (w.lines1718Hold leadoutWord)

/-- Step 2: the CAV picture number (44 R215). -/
def vdecPicno (w : VbiWords) (r : VbiRec) : VbiRec :=
  r.applyFound (firstValid picnoOfWord [w.w117, w.w118]) VbiRec.withPicno

/-- Step 3: the CLV programme time code, only if step 2 found nothing (44 R216). -/
def vdecTimecode (w : VbiWords) (r : VbiRec) : VbiRec :=
  if r.picNo = absent then
    r.applyFound (firstValid timecodeOfWord [w.w117, w.w118]) VbiRec.withTimecode
  else r

/-- Step 4: the disc type (44 R217). -/
def vdecType (w : VbiWords) (r : VbiRec) : VbiRec := r.settleType (w.w216 == clvmarkWord)

/-- Step 5: the chapter number; on a CLV disc from line 18 only (44 R218). -/
def vdecChapter (w : VbiWords) (r : VbiRec) : VbiRec :=
  r.applyFound (firstValid chapterOfWord (if r.discType = typeClv then [w.w218] else [w.w217, w.w218]))
    VbiRec.withChapter

/-- Step 6: the picture stop (44 R219). -/
def vdecStop (w : VbiWords) (r : VbiRec) : VbiRec :=
  r.markIf 2 (w.w216 == stopWord || w.w217 == stopWord)

/-- Step 7: the CLV second and picture number (44 R220). -/
def vdecClvsec (w : VbiWords) (r : VbiRec) : VbiRec :=
  r.applyFound (firstValid clvsecOfWord [w.w116, w.w216]) VbiRec.withClvsec

/-- The first programme status word with its CX reading (44 R225, R228). -/
def firstStatus (w : VbiWords) : Option (LineWord × Bool) :=
  firstValid (fun c => (statusOfWord c).map fun cx => (c, cx)) [w.w116, w.w216]

/-- Step 8: the programme status (44 R225). -/
def vdecStatus (w : VbiWords) (r : VbiRec) : VbiRec :=
  r.applyFound (firstStatus w) fun r found =>
    r.withStatus found.2 (found.1.extractLsb' 8 4) (found.1.extractLsb' 4 4) (found.1.extractLsb' 0 4)

/-- Step 9: the user code (44 R229). -/
def vdecUsercode (w : VbiWords) (r : VbiRec) : VbiRec :=
  r.applyFound (firstValid usercodeOfWord [w.w116, w.w216]) VbiRec.withUsercode

/-- Steps 2 to 7, run in neither lead-in nor lead-out (44 R210, R214). -/
def vdecNumeric (w : VbiWords) (r : VbiRec) : VbiRec :=
  vdecClvsec w (vdecStop w (vdecChapter w (vdecType w (vdecTimecode w (vdecPicno w r)))))

/-- The record `VDEC` writes: a function of the six words alone (44 R210, R212, R231). -/
def vdecRecord (w : VbiWords) : VbiRec :=
  let r1 := vdecLead w VbiRec.default
  let r8 := vdecStatus w (r1.unlessLead (vdecNumeric w))
  if r1.leadInOut then vdecUsercode w r8 else r8

/-- The states of the decision sequence after `START` (44 R221). -/
inductive DecisionState where
  | leadIO
  | cav
  | clv
  | unknown
deriving DecidableEq, Repr

/-- The state a `VDEC` of these words ends in: `LEADIO` over `CAV` over `CLV` over `UNKNOWN` (44 R221). -/
def decisionState (w : VbiWords) : DecisionState :=
  if w.lines1718Hold leadinWord || w.lines1718Hold leadoutWord then .leadIO
  else if (firstValid picnoOfWord [w.w117, w.w118]).isSome then .cav
  else if (firstValid timecodeOfWord [w.w117, w.w118]).isSome || w.w216 == clvmarkWord then .clv
  else .unknown

/-- `VDEC` (44 R210, R230). -/
def execVdec (s : State) : Result := unlessFault s fun s => .next { s with vr := vdecRecord s.vw }

end Sys2Proof.Machine
end

