-- ==== Sys2Proof/Machine/VbiEncode.lean ====
section
/-! DEFINITION. The command `VENC`: the VBI line encoder (45_vbi_encode.md R240 to R257). -/

namespace Sys2Proof.Machine

/-- The type `VENC` reads: the reserved value 3 is unknown (45 R241). -/
def VbiRec.encType (r : VbiRec) : BitVec 2 := if r.discType = 3#2 then typeUnknown else r.discType

/-- `stop`: a CAV record with `picStop` (45 R240). -/
def VbiRec.encStop (r : VbiRec) : Bool := r.encType == typeCav && r.picStop

/-- A number inside its encodable range 0 .. `hi`, read as signed (45 R241, R242). -/
def encodable (v : BitVec 32) (hi : Int) : Option Nat :=
  if 0 ≤ v.toInt ∧ v.toInt ≤ hi then some v.toInt.toNat else none

/-- Both numbers of a pair that shares a word, or neither (45 R242). -/
def bothEncodable (a : BitVec 32) (hiA : Int) (b : BitVec 32) (hiB : Int) : Option (Nat × Nat) :=
  match encodable a hiA, encodable b hiB with
  | some x, some y => some (x, y)
  | _, _ => none

/-- The `PICNO` word of a number, with the legacy stop bit 19 or without (45 R245). -/
def picnoWord (n : Nat) (legacyStop : Bool) : LineWord :=
  let c := 0xF00000#24 ||| (bcd5 n).setWidth 24
  if legacyStop then c ||| 0x080000#24 else c

/-- The `CHAPTER` word of a number (45 R247). -/
def chapterWord (n : Nat) : LineWord := 0x800DDD#24 ||| ((bcd2 n).setWidth 24 <<< 12)

/-- The `TIMECODE` word of an hour and a minute (45 R248). -/
def timecodeWord (t : Nat × Nat) : LineWord :=
  0xF0DD00#24 ||| (BitVec.ofNat 24 t.1 <<< 16) ||| (bcd2 t.2).setWidth 24

/-- The `CLVSEC` word of a second and a picture-in-second (45 R248). -/
def clvsecWord (t : Nat × Nat) : LineWord :=
  0x80E000#24 ||| (BitVec.ofNat 24 (10 + t.1 / 10) <<< 16) ||| (BitVec.ofNat 24 (t.1 % 10) <<< 8)
    ||| (bcd2 t.2).setWidth 24

/-- Step 1: the four words of lines 17 and 18 hold a sentinel (45 R244). -/
def VbiWords.sentinel (c : LineWord) : VbiWords := ⟨0#24, c, c, 0#24, c, c⟩

/-- Step 2: the CAV picture number (45 R245). -/
def vencPicno (r : VbiRec) (p : BitVec 1) (w : VbiWords) : VbiWords :=
  if r.encType = typeCav then
    match encodable r.picNo 79999 with
    | some n => { w with w117 := picnoWord n (r.encStop && p == 0#1), w118 := picnoWord n (r.encStop && p == 0#1) }
    | none => w
  else w

/-- Step 3: the CAV stop code (45 R246). -/
def vencStop (r : VbiRec) (w : VbiWords) : VbiWords :=
  if r.encStop then { w with w216 := stopWord, w217 := stopWord } else w

/-- Step 4: the chapter number; the stop code keeps line 17 of field 2 (45 R247). -/
def vencChapter (r : VbiRec) (w : VbiWords) : VbiWords :=
  match encodable r.chNo 79 with
  | some n =>
    if r.encType ≠ typeClv ∧ r.encStop = false then { w with w218 := chapterWord n, w217 := chapterWord n }
    else { w with w218 := chapterWord n }
  | none => w

/-- Step 5, first word: the CLV hour and minute (45 R248). -/
def vencTimecode (r : VbiRec) (w : VbiWords) : VbiWords :=
  if r.encType = typeClv then
    match bothEncodable r.clvHr 9 r.clvMin 59 with
    | some t => { w with w117 := timecodeWord t, w118 := timecodeWord t }
    | none => w
  else w

/-- Step 5, second word: the CLV second and picture-in-second (45 R248). -/
def vencClvsec (r : VbiRec) (w : VbiWords) : VbiWords :=
  if r.encType = typeClv then
    match bothEncodable r.clvSec 59 r.clvPicNo 99 with
    | some t => { w with w116 := clvsecWord t }
    | none => w
  else w

/-- Step 6: the CLV marker (45 R249). -/
def vencMarker (r : VbiRec) (w : VbiWords) : VbiWords :=
  if r.encType = typeClv then { w with w216 := clvmarkWord } else w

/-- The six words `VENC` writes for a record. Only `VR_FLAGS[2:0]` and the numeric registers are read: programme
status and user code are not encoded (45 R240, R250). -/
def vencWords (r : VbiRec) (p : BitVec 1) : VbiWords :=
  if r.leadIn then VbiWords.sentinel leadinWord
  else if r.leadOut then VbiWords.sentinel leadoutWord
  else
    vencMarker r (vencClvsec r (vencTimecode r (vencChapter r (vencStop r (vencPicno r p VbiWords.zero)))))

/-- `VENC` (45 R240, R256). -/
def execVenc (p : BitVec 1) (s : State) : Result := unlessFault s fun s => .next { s with vw := vencWords s.vr p }

end Sys2Proof.Machine
end

