-- ==== Sys2Proof/Machine/Dispatch.lean ====
section
/-! DEFINITION. One arm per instruction (40_commands.md R110: "execute the command of the matching row to
completion"). -/

namespace Sys2Proof.Machine

def exec (i : Instr) (s : State) : Host.Outcome State Fault Refusal :=
  match i with
  | .nop => Sys2Proof.Machine.execNop s
  | .cfg => Sys2Proof.Machine.execCfg s
  | .decf => Sys2Proof.Machine.execDecf s
  | .vdec => Sys2Proof.Machine.execVdec s
  | .venc p => Sys2Proof.Machine.execVenc p s
  | .srst => Sys2Proof.Machine.execSrst s
  | .leadin => Sys2Proof.Machine.execLeadin s
  | .leadout => Sys2Proof.Machine.execLeadout s
  | .stop => Sys2Proof.Machine.execStop s
  | .clvmark => Sys2Proof.Machine.execClvmark s
  | .picno s19 d4 d3 d2 d1 d0 => Sys2Proof.Machine.execPicno s19 d4 d3 d2 d1 d0 s
  | .timecode hr mt mu => Sys2Proof.Machine.execTimecode hr mt mu s
  | .chapter c19 ct cu => Sys2Proof.Machine.execChapter c19 ct cu s
  | .clvsec x1 x3 x4 x5 => Sys2Proof.Machine.execClvsec x1 x3 x4 x5 s
  | .statusCxOn x3 x4 x5 => Sys2Proof.Machine.execStatusCxOn x3 x4 x5 s
  | .statusCxOff x3 x4 x5 => Sys2Proof.Machine.execStatusCxOff x3 x4 x5 s
  | .usercode x1 x345 => Sys2Proof.Machine.execUsercode x1 x345 s

end Sys2Proof.Machine
end

