-- ==== Sys2Proof/Machine/Port.lean ====
section
/-! DEFINITION. The host port (20_memory.md R60 to R73): what each transaction does, command dispatch
(40_commands.md R110, R111), and where the next event comes from. -/

namespace Sys2Proof.Machine

/-- A host write of `CMD`: under fault every word but `SRST` is refused, an illegal word raises `BadCommand`, a legal
one is executed to completion (40 R110, R111; 30 R86). -/
def commandWrite (c : Word) (s : State) : Result :=
  match decode (.command c) with
  | .ok i => exec i s
  | .error _ => unlessFault s fun s => .next (s.raise .badCommand c)

/-- What one event does (20 R60, R65; 70 R290). -/
def hostEvent (e : HostEvent) (s : State) : Result :=
  match e with
  | .writeReg index value =>
    match regAt index with
    | some .cmd => commandWrite value s
    | some r => .next (s.writeNamed r value)
    | none => .next s
  | .readReg index => .next { s with portData := s.readReg index }
  | .writeBuf space index value => .next (s.writeBuf space index value)
  | .readBuf space index => .next { s with portData := (s.readBuf space index).setWidth 32 }
  | .resetInput => .next s.powerReset

/-- The next event of the host takes place; with none pending nothing changes (60 R261, R282; log 1, 5). -/
def nextEvent (s : State) : Result :=
  match s.host with
  | [] => .next s
  | e :: rest => hostEvent e { s with host := rest }

/-- The command word of the next event, if it is a write of `CMD`, with the state in which the event takes place. -/
def State.fetch (s : State) : Option (Word × State) :=
  match s.host with
  | .writeReg 0 c :: rest => some (c, { s with host := rest })
  | _ => none

/-- The host's next event is a write of `CMD` (10 R22; log 2). -/
def State.presentCommand (s : State) (c : Word) : State := { s with host := .writeReg 0 c :: s.host }

/-- The six words with one line code alone, on a line where `VDEC` looks for its format (44 R211; log 2): line 17 of
field 1 for a lead-in, a lead-out, a picture number or a time code, line 18 of field 2 for a chapter number, line 16 of
field 2 for a picture stop or the CLV marker, line 16 of field 1 for the rest. -/
def VbiWords.alone (i : Instr) (c : LineWord) : VbiWords :=
  match i with
  | .chapter _ _ _ => { VbiWords.zero with w218 := c }
  | .stop => { VbiWords.zero with w216 := c }
  | .clvmark => { VbiWords.zero with w216 := c }
  | .clvsec _ _ _ _ => { VbiWords.zero with w116 := c }
  | .statusCxOn _ _ _ => { VbiWords.zero with w116 := c }
  | .statusCxOff _ _ _ => { VbiWords.zero with w116 := c }
  | .usercode _ _ => { VbiWords.zero with w116 := c }
  | .leadin | .leadout | .picno _ _ _ _ _ _ | .timecode _ _ _
  | .nop | .cfg | .decf | .vdec | .venc _ | .srst => { VbiWords.zero with w117 := c }

/-- The state in which the next step runs a code word: a command word is the host's next write of `CMD`; a line code
stands alone in the VBI words, and the host's next write of `CMD` is the `VDEC` that reads it (00_scope.md R2, 44 R210;
log 2, 3). A word that matches no format stands where the picture numbers are. -/
def State.presentWord (s : State) (cw : CodeWord) : State :=
  match cw with
  | .command c => s.presentCommand c
  | .lineCode c =>
    match decodeLine c with
    | .ok i => { s with vw := VbiWords.alone i c }.presentCommand 0x00000003#32
    | .error _ => { s with vw := { VbiWords.zero with w117 := c } }.presentCommand 0x00000003#32

end Sys2Proof.Machine
end

