-- ==== Sys2Proof/Machine/Step.lean ====
section
/-! DEFINITION. One step of LDCORE: the next event of the host takes place (20_memory.md R66: "a single total order
of host transactions"). -/

namespace Sys2Proof.Machine

/-- One step (log 1, 5). -/
def step (s : State) : Host.Outcome State Fault Refusal := nextEvent s

/-- The state with an opcode-table word where `step` takes it next: for format CMD32 the host's next write of `CMD`;
for format VBI24 alone in the VBI words, with the host's next write of `CMD` the `VDEC` that reads it (log 2). -/
def State.withFetchWord (s : State) (nbits w : Nat) : State :=
  match tableCodeWord nbits w with
  | some cw => s.presentWord cw
  | none => s

end Sys2Proof.Machine
end

