-- ==== Sys2Proof/Safety.lean ====
section
/-! DEFINITION. What counts as a safe state of LDCORE, in the terms the statements use: the invariant that every step
keeps, and the conditions under which `DECF` executes normally. -/

namespace Sys2Proof.Machine

/-- Every sample of a raw plane is a 16-bit unsigned value (10 R48). -/
def rawInRange (p : Plane) : Bool := p.all fun line => line.all fun v => decide (0 ≤ v) && decide (v ≤ 65535)

/-- The three buffers are in their canonical form (log 9). -/
def State.buffersWf (s : State) : Bool :=
  Memory.wf Config.fbufCap s.f1 && Memory.wf Config.fbufCap s.f2 && Memory.wf Config.rgbCap s.rgb

/-- `ERR` and `ERRINFO` are 0 while `FAULT` = 0, and `ERR` is one of the codes 1 to 7 while `FAULT` = 1 (10 R23, R24;
60 R262). -/
def State.errorsWf (s : State) : Bool :=
  if s.status.fault then decide (1 ≤ s.status.err.toNat) && decide (s.status.err.toNat ≤ 7)
  else s.status.err == 0#8 && s.errInfo == 0#32

/-- An active configuration satisfies the checks of `CFG`; with none, the active copies are 0 and no frame exists (40
R114, R116; 10 R31, R35, R52). -/
def State.configWf (s : State) : Bool :=
  if s.status.configured then (cfgViolation s.actVp).isNone
  else s.actVp == VideoParams.zero && s.actCc == CombConfig.zero && s.prev.isNone && !s.status.frameValid
    && !s.status.frame3D

/-- A present `PREV` has the active geometry, legal phase IDs and 16-bit samples (10 R49; 40 R117; 41 R152; 20
R74). -/
def State.prevWf (s : State) : Bool :=
  match s.prev with
  | some f => f.geom == s.actVp.geometry && legalPhase f.p1 && legalPhase f.p2 && rawInRange f.raw
  | none => true

/-- A valid frame has the dimensions of the active configuration and fills exactly its elements of `RGB` (10 R37, R47;
43 R199). -/
def State.frameWf (s : State) : Bool :=
  if s.status.frameValid then
    s.prev.isSome && s.frWidth == s.actVp.fieldWidth && decide (s.frHeight.toNat = 2 * s.actVp.fieldHeight.toNat - 1)
      && decide (s.rgb.length = s.frHeight.toNat * s.frWidth.toNat * 3)
  else true

/-- The invariant of LDCORE. -/
def State.inv (s : State) : Bool := s.buffersWf && s.errorsWf && s.configWf && s.prevWf && s.frameWf

/-- All six preconditions of `DECF` hold and no fault is held (41 R131, 40 R111). -/
def State.decfReady (s : State) : Bool :=
  !s.status.fault && s.status.configured && s.actVp.isPal == 0#1
    && decide (s.f1Len.toNat = s.actVp.fieldWidth.toNat * s.actVp.fieldHeight.toNat)
    && decide (s.f2Len.toNat = s.actVp.fieldWidth.toNat * s.actVp.fieldHeight.toNat)
    && decide (1 ≤ s.f1Phase.toNat) && decide (s.f1Phase.toNat ≤ 4)
    && decide (1 ≤ s.f2Phase.toNat) && decide (s.f2Phase.toNat ≤ 4)

/-- A number of the record that is absent or in 0 .. `hi` (45 R242). -/
def absentOrUpTo (v : BitVec 32) (hi : Int) : Prop := v = absent ∨ (0 ≤ v.toInt ∧ v.toInt ≤ hi)

/-- A pair of numbers that share a word: both absent, or each in its range (45 R253). -/
def pairAbsentOrUpTo (v : BitVec 32) (hi : Int) (v' : BitVec 32) (hi' : Int) : Prop :=
  (v = absent ∧ v' = absent) ∨ ((0 ≤ v.toInt ∧ v.toInt ≤ hi) ∧ (0 ≤ v'.toInt ∧ v'.toInt ≤ hi'))

/-- The set `VbiEncodable` of 45_vbi_encode.md R253, case by case. -/
inductive VbiEncodable : VbiRec → Prop where
  /-- Case (a): lead-in and nothing else. -/
  | leadIn : VbiEncodable { VbiRec.default with flags := 1#13 }
  /-- Case (b): lead-out and nothing else. -/
  | leadOut : VbiEncodable { VbiRec.default with flags := 2#13 }
  /-- Case (c): a CAV record, with or without `picStop` (bit 2 of the flags). -/
  | cav (pic ch : BitVec 32) (stop : Bool) (hPic : 0 ≤ pic.toInt ∧ pic.toInt ≤ 79999) (hCh : absentOrUpTo ch 79) :
      VbiEncodable
        { VbiRec.default with
          discType := typeCav, picNo := pic, chNo := ch, flags := if stop then 4#13 else 0#13 }
  /-- Case (d): a CLV record. -/
  | clv (ch hr mn sc pn : BitVec 32) (hCh : absentOrUpTo ch 79) (hClock : pairAbsentOrUpTo hr 9 mn 59)
      (hSecond : pairAbsentOrUpTo sc 59 pn 99) :
      VbiEncodable
        { VbiRec.default with
          discType := typeClv, chNo := ch, clvHr := hr, clvMin := mn, clvSec := sc, clvPicNo := pn }
  /-- Case (e): a record of unknown type. -/
  | unknown (ch : BitVec 32) (hCh : absentOrUpTo ch 79) : VbiEncodable { VbiRec.default with chNo := ch }

end Sys2Proof.Machine
end

