-- ==== Sys2Proof/Certificates/Slice0/Obligations.lean ====
section
/-! DEFINITION. The statements for the provers. The helpers of `Sys2Proof.Spec` say a rule of spec/ by plain arithmetic
on the value of a word, apart from the model's own field extraction. -/

namespace Sys2Proof.Spec

open Sys2Proof.Machine

/-- The picture number of a word, or none (44_vbi_decode.md R215). -/
def picno (c : LineWord) : Option Nat :=
  if c.toNat / 0x100000 = 0xF ∧ c.toNat / 0x1000 % 16 ≤ 9 ∧ c.toNat / 0x100 % 16 ≤ 9 ∧ c.toNat / 0x10 % 16 ≤ 9
      ∧ c.toNat % 16 ≤ 9 then
    some (10000 * (c.toNat / 0x10000 % 8) + 1000 * (c.toNat / 0x1000 % 16) + 100 * (c.toNat / 0x100 % 16)
      + 10 * (c.toNat / 0x10 % 16) + c.toNat % 16)
  else none

/-- The hour and minute of a word, or none (44 R216). -/
def timecode (c : LineWord) : Option (Nat × Nat) :=
  if c.toNat / 0x100000 = 0xF ∧ c.toNat / 0x100 % 256 = 0xDD ∧ c.toNat / 0x10000 % 16 ≤ 9
      ∧ c.toNat / 0x10 % 16 ≤ 5 ∧ c.toNat % 16 ≤ 9 then
    some (c.toNat / 0x10000 % 16, 10 * (c.toNat / 0x10 % 16) + c.toNat % 16)
  else none

/-- The chapter number of a word, or none (44 R218). -/
def chapter (c : LineWord) : Option Nat :=
  if c.toNat / 0x100000 = 0x8 ∧ c.toNat % 0x1000 = 0xDDD ∧ c.toNat / 0x1000 % 16 ≤ 9 then
    some (10 * (c.toNat / 0x10000 % 8) + c.toNat / 0x1000 % 16)
  else none

/-- The second and picture-in-second of a word, or none (44 R220). -/
def clvsec (c : LineWord) : Option (Nat × Nat) :=
  if c.toNat / 0x100000 = 0x8 ∧ c.toNat / 0x1000 % 16 = 0xE ∧ 10 ≤ c.toNat / 0x10000 % 16
      ∧ c.toNat / 0x100 % 16 ≤ 9 ∧ c.toNat / 0x10 % 16 ≤ 9 ∧ c.toNat % 16 ≤ 9 then
    some (10 * (c.toNat / 0x10000 % 16 - 10) + c.toNat / 0x100 % 16, 10 * (c.toNat / 0x10 % 16) + c.toNat % 16)
  else none

/-- The user code of a word, or none (44 R229). -/
def usercode (c : LineWord) : Option Nat :=
  if c.toNat / 0x100000 = 0x8 ∧ c.toNat / 0x1000 % 16 = 0xD ∧ c.toNat / 0x10000 % 16 ≤ 7 then
    some (0x1000 * (c.toNat / 0x10000 % 16) + c.toNat % 0x1000)
  else none

/-- A word is a programme status word (44 R225). -/
abbrev isStatus (c : LineWord) : Prop := c.toNat / 0x1000 = 0x8DC ∨ c.toNat / 0x1000 = 0x8BA

/-- A number of the record: -1 where nothing was found (10_state.md R41). -/
def number : Option Nat → BitVec 32
  | some n => BitVec.ofNat 32 n
  | none => 0xFFFFFFFF#32

/-- A sentinel is among the four words of lines 17 and 18 (44 R213). -/
abbrev onLines1718 (w : VbiWords) (c : LineWord) : Prop := c = w.w117 ∨ c = w.w118 ∨ c = w.w217 ∨ c = w.w218

/-- `VDEC` of these words finds neither lead-in nor lead-out (44 R214). -/
abbrev noLead (w : VbiWords) : Prop := ¬ onLines1718 w 0x88FFFF#24 ∧ ¬ onLines1718 w 0x80EEEE#24

/-- `AUD` (44 R227): `dump`, `fm`, `soundMode`. -/
def aud : List (Nat × Nat × Nat) :=
  [(0, 0, 0), (0, 0, 1), (0, 0, 2), (0, 0, 3), (0, 1, 4), (0, 1, 5), (0, 1, 6), (0, 1, 7),
   (1, 0, 8), (1, 0, 8), (1, 0, 11), (1, 0, 8), (1, 1, 9), (1, 1, 9), (1, 1, 10), (1, 1, 10)]

/-- `AUD2` (44 R227): `soundModeAm2`. -/
def aud2 : List Nat := [0, 1, 11, 3, 11, 11, 11, 11]

/-- A number inside its range, read as signed (45_vbi_encode.md R242). -/
abbrev inRange (v : BitVec 32) (hi : Int) : Prop := 0 ≤ v.toInt ∧ v.toInt ≤ hi

/-- The `PICNO` word of a number below 80000, from its decimal digits (45 R245). -/
def picnoWord (n : Nat) (legacyStop : Bool) : LineWord :=
  BitVec.ofNat 24 (0xF00000 + (if legacyStop then 0x80000 else 0) + 0x10000 * (n / 10000) + 0x1000 * (n / 1000 % 10)
    + 0x100 * (n / 100 % 10) + 0x10 * (n / 10 % 10) + n % 10)

/-- The `CHAPTER` word of a number below 80 (45 R247). -/
def chapterWord (n : Nat) : LineWord := BitVec.ofNat 24 (0x800DDD + 0x10000 * (n / 10) + 0x1000 * (n % 10))

/-- The `TIMECODE` word of an hour below 10 and a minute below 60 (45 R248). -/
def timecodeWord (hr mn : Nat) : LineWord := BitVec.ofNat 24 (0xF0DD00 + 0x10000 * hr + 0x10 * (mn / 10) + mn % 10)

/-- The `CLVSEC` word of a second below 60 and a picture-in-second below 100 (45 R248). -/
def clvsecWord (sec pic : Nat) : LineWord :=
  BitVec.ofNat 24 (0x80E000 + 0x10000 * (10 + sec / 10) + 0x100 * (sec % 10) + 0x10 * (pic / 10) + pic % 10)

/-- The state with a fatal error recorded (60_exceptions.md R272). -/
def raised (s : State) (code : BitVec 8) (info : Word) : State :=
  { s with status := { s.status with fault := true, err := code }, errInfo := info }

/-- The state after a `DECF` that failed a check: `FRAME_VALID` cleared, the error recorded, and, in the model's own
counter, `RGB` unspecified anew with some number `e` (41 R130, R131; log 7). -/
def decfFailed (s : State) (e : Nat) (code : BitVec 8) (info : Word) : State :=
  { s with
    status := { s.status with frameValid := false, fault := true, err := code }
    errInfo := info
    rgbEpoch := e }

/-- `use3` of 41_comb_separation.md R140. -/
def useThree (s : State) : Prop :=
  s.actCc.flags.getLsbD 3 = true ∧
    ∃ f, s.prev = some f ∧
      f.geom = ⟨s.actVp.fieldWidth, s.actVp.fieldHeight, s.actVp.activeStart, s.actVp.activeEnd⟩ ∧
      ¬((f.p1 = 1#3 ∨ f.p1 = 4#3) ↔ (s.f1Phase = 1#3 ∨ s.f1Phase = 4#3)) ∧
      ¬((f.p2 = 1#3 ∨ f.p2 = 4#3) ↔ (s.f2Phase = 1#3 ∨ s.f2Phase = 4#3))

/-- The active window of the active configuration (00_scope.md R16). -/
abbrev inWindow (s : State) (y x : Nat) : Prop :=
  y < 2 * s.actVp.fieldHeight.toNat - 1 ∧ s.actVp.activeStart.toNat ≤ x ∧ x < s.actVp.activeEnd.toNat ∧
    x < s.actVp.fieldWidth.toNat

/-- The active window of a set of parameters (00 R16). -/
abbrev windowOf (c : CombParams) (y x : Nat) : Prop := y < 2 * c.height - 1 ∧ c.avs ≤ x ∧ x < c.ave ∧ x < c.width

/-- The sign of the subcarrier on a line, from the two phase IDs (41 R134). -/
def sign (p1 p2 : BitVec 3) (y : Nat) : Int :=
  if ((if y % 2 = 0 then p1 else p2) = 1#3 ∨ (if y % 2 = 0 then p1 else p2) = 4#3) ↔ y / 2 % 2 = 0 then 1 else -1

/-- `W100` of the active configuration (10_state.md R31). -/
def w100 (s : State) : Int := s.actVp.white.toNat - s.actVp.black.toNat

/-- The chroma estimate handed to demodulation, from the planes of a frame buffer (41 R147). -/
def csel (use3 : Bool) (f : FrameBuffer) (y x : Nat) : Int :=
  if use3 then (planeAt f.kv y x * planeAt f.clp2 y x + (256 - planeAt f.kv y x) * planeAt f.clp1 y x) / 256
  else planeAt f.clp1 y x

/-- A channel read with edge replication (42 R164). -/
def at' (c : CombParams) (v : Plane) (y : Nat) (x : Int) : Int := planeAt v y (max (c.avs : Int) (min (c.ave - 1) x)).toNat

/-- `FIR_I` at a pixel: taps 1 2 3 4 3 2 1 over 16, rounded half up (42 R166). -/
def firI (c : CombParams) (v : Plane) (y : Nat) (x : Int) : Int :=
  (2 * (at' c v y (x - 3) + 2 * at' c v y (x - 2) + 3 * at' c v y (x - 1) + 4 * at' c v y x + 3 * at' c v y (x + 1)
    + 2 * at' c v y (x + 2) + at' c v y (x + 3)) + 16) / 32

/-- `FIR_Q` at a pixel: taps 1 to 8 and back over 64, rounded half up (42 R166). -/
def firQ (c : CombParams) (v : Plane) (y : Nat) (x : Int) : Int :=
  (2 * (at' c v y (x - 7) + 2 * at' c v y (x - 6) + 3 * at' c v y (x - 5) + 4 * at' c v y (x - 4)
    + 5 * at' c v y (x - 3) + 6 * at' c v y (x - 2) + 7 * at' c v y (x - 1) + 8 * at' c v y x
    + 7 * at' c v y (x + 1) + 6 * at' c v y (x + 2) + 5 * at' c v y (x + 3) + 4 * at' c v y (x + 4)
    + 3 * at' c v y (x + 5) + 2 * at' c v y (x + 6) + at' c v y (x + 7)) + 64) / 128

/-- Coring at a pixel with threshold `t` (42 R170). -/
def cored (c : CombParams) (v : Plane) (t : Int) (y x : Nat) : Int :=
  planeAt v y x - max (-t) (min t ((2 * (2 * at' c v y x - at' c v y (x - 1) - at' c v y (x + 1)) + 4) / 8))

/-- The writable registers other than `CMD`, with their widths (10 R28). -/
def rwRegisters : List (Nat × Nat) :=
  [(0x10, 16), (0x11, 16), (0x12, 16), (0x13, 16), (0x14, 16), (0x15, 16), (0x16, 16), (0x17, 16), (0x18, 1),
   (0x20, 10), (0x21, 5), (0x22, 8), (0x23, 8), (0x30, 18), (0x31, 3), (0x32, 18), (0x33, 3),
   (0x40, 24), (0x41, 24), (0x42, 24), (0x43, 24), (0x44, 24), (0x45, 24),
   (0x48, 2), (0x49, 32), (0x4A, 32), (0x4B, 32), (0x4C, 32), (0x4D, 32), (0x4E, 32), (0x4F, 13), (0x50, 8),
   (0x51, 17)]

/-- The register map of 10 R28, its writable rows other than `CMD`: the state after a host write of `v` at the index,
the low bits in the named register and everything else as it was (10 R27). -/
def writtenAt (s : State) (v : Word) : List (Nat × State) :=
  [(0x10, { s with vp.fieldWidth := v.setWidth 16 }), (0x11, { s with vp.fieldHeight := v.setWidth 16 }),
   (0x12, { s with vp.activeStart := v.setWidth 16 }), (0x13, { s with vp.activeEnd := v.setWidth 16 }),
   (0x14, { s with vp.burstStart := v.setWidth 16 }), (0x15, { s with vp.burstEnd := v.setWidth 16 }),
   (0x16, { s with vp.black := v.setWidth 16 }), (0x17, { s with vp.white := v.setWidth 16 }),
   (0x18, { s with vp.isPal := v.setWidth 1 }), (0x20, { s with cc.chromaGain := v.setWidth 10 }),
   (0x21, { s with cc.flags := v.setWidth 5 }), (0x22, { s with cc.cnrLevel := v.setWidth 8 }),
   (0x23, { s with cc.ynrLevel := v.setWidth 8 }), (0x30, { s with f1Len := v.setWidth 18 }),
   (0x31, { s with f1Phase := v.setWidth 3 }), (0x32, { s with f2Len := v.setWidth 18 }),
   (0x33, { s with f2Phase := v.setWidth 3 }), (0x40, { s with vw.w116 := v.setWidth 24 }),
   (0x41, { s with vw.w117 := v.setWidth 24 }), (0x42, { s with vw.w118 := v.setWidth 24 }),
   (0x43, { s with vw.w216 := v.setWidth 24 }), (0x44, { s with vw.w217 := v.setWidth 24 }),
   (0x45, { s with vw.w218 := v.setWidth 24 }), (0x48, { s with vr.discType := v.setWidth 2 }),
   (0x49, { s with vr.picNo := v }), (0x4A, { s with vr.chNo := v }), (0x4B, { s with vr.clvHr := v }),
   (0x4C, { s with vr.clvMin := v }), (0x4D, { s with vr.clvSec := v }), (0x4E, { s with vr.clvPicNo := v }),
   (0x4F, { s with vr.flags := v.setWidth 13 }), (0x50, { s with vr.sound := v.setWidth 8 }),
   (0x51, { s with vr.userCode := v.setWidth 17 })]

/-- The register map of 10 R28, its readable rows other than `STATUS`: the register at the index, zero-extended or a
full 32 bits (10 R27). -/
def readsAt (s : State) : List (Nat × Word) :=
  [(0x02, s.errInfo), (0x10, s.vp.fieldWidth.setWidth 32), (0x11, s.vp.fieldHeight.setWidth 32),
   (0x12, s.vp.activeStart.setWidth 32), (0x13, s.vp.activeEnd.setWidth 32), (0x14, s.vp.burstStart.setWidth 32),
   (0x15, s.vp.burstEnd.setWidth 32), (0x16, s.vp.black.setWidth 32), (0x17, s.vp.white.setWidth 32),
   (0x18, s.vp.isPal.setWidth 32), (0x20, s.cc.chromaGain.setWidth 32), (0x21, s.cc.flags.setWidth 32),
   (0x22, s.cc.cnrLevel.setWidth 32), (0x23, s.cc.ynrLevel.setWidth 32), (0x30, s.f1Len.setWidth 32),
   (0x31, s.f1Phase.setWidth 32), (0x32, s.f2Len.setWidth 32), (0x33, s.f2Phase.setWidth 32),
   (0x38, s.frWidth.setWidth 32), (0x39, s.frHeight.setWidth 32), (0x40, s.vw.w116.setWidth 32),
   (0x41, s.vw.w117.setWidth 32), (0x42, s.vw.w118.setWidth 32), (0x43, s.vw.w216.setWidth 32),
   (0x44, s.vw.w217.setWidth 32), (0x45, s.vw.w218.setWidth 32), (0x48, s.vr.discType.setWidth 32),
   (0x49, s.vr.picNo), (0x4A, s.vr.chNo), (0x4B, s.vr.clvHr), (0x4C, s.vr.clvMin), (0x4D, s.vr.clvSec),
   (0x4E, s.vr.clvPicNo), (0x4F, s.vr.flags.setWidth 32), (0x50, s.vr.sound.setWidth 32),
   (0x51, s.vr.userCode.setWidth 32), (0x60, s.actVp.fieldWidth.setWidth 32),
   (0x61, s.actVp.fieldHeight.setWidth 32), (0x62, s.actVp.activeStart.setWidth 32),
   (0x63, s.actVp.activeEnd.setWidth 32), (0x64, s.actVp.burstStart.setWidth 32),
   (0x65, s.actVp.burstEnd.setWidth 32), (0x66, s.actVp.black.setWidth 32), (0x67, s.actVp.white.setWidth 32),
   (0x68, s.actVp.isPal.setWidth 32), (0x70, s.actCc.chromaGain.setWidth 32), (0x71, s.actCc.flags.setWidth 32),
   (0x72, s.actCc.cnrLevel.setWidth 32), (0x73, s.actCc.ynrLevel.setWidth 32)]

/-- The read-only registers (10 R28). -/
def roRegisters : List Nat :=
  [0x01, 0x02, 0x38, 0x39, 0x60, 0x61, 0x62, 0x63, 0x64, 0x65, 0x66, 0x67, 0x68, 0x70, 0x71, 0x72, 0x73]

/-- A word that no format accepts (30_encoding.md R99). -/
abbrev noFormat (c : LineWord) : Prop :=
  c ≠ 0x88FFFF#24 ∧ c ≠ 0x80EEEE#24 ∧ c ≠ 0x82CFFF#24 ∧ c ≠ 0x87FFFF#24 ∧ ¬isStatus c ∧ picno c = none ∧
    timecode c = none ∧ chapter c = none ∧ clvsec c = none ∧ usercode c = none

/-- The six words with one line code alone, on a line where `VDEC` looks for its format (44 R211). -/
def alone (i : Instr) (c : LineWord) : VbiWords :=
  match i with
  | .chapter _ _ _ => ⟨0#24, 0#24, 0#24, 0#24, 0#24, c⟩
  | .stop | .clvmark => ⟨0#24, 0#24, 0#24, c, 0#24, 0#24⟩
  | .clvsec _ _ _ _ | .statusCxOn _ _ _ | .statusCxOff _ _ _ | .usercode _ _ =>
    ⟨c, 0#24, 0#24, 0#24, 0#24, 0#24⟩
  | _ => ⟨0#24, c, 0#24, 0#24, 0#24, 0#24⟩

/-- The record is in lead-in or lead-out (44 R210). -/
abbrev inLead (r : VbiRec) : Prop := r.flags.getLsbD 0 = true ∨ r.flags.getLsbD 1 = true

end Sys2Proof.Spec

open Sys2Proof Sys2Proof.Machine

/-! ### Encoding -/

/-- 30_encoding.md R83, R84, R85: the six rows of the opcode map and nothing else. -/
def Obligations.CommandDecodeIsOpcodeMap : Prop :=
  ∀ c : Word,
    (decodeCommand c = .ok .nop ↔ c = 0x00000000#32) ∧
    (decodeCommand c = .ok .cfg ↔ c = 0x00000001#32) ∧
    (decodeCommand c = .ok .decf ↔ c = 0x00000002#32) ∧
    (decodeCommand c = .ok .vdec ↔ c = 0x00000003#32) ∧
    (∀ p, decodeCommand c = .ok (.venc p) ↔ c &&& 0xFFFFFEFF#32 = 0x00000004#32 ∧ p = c.extractLsb' 8 1) ∧
    (decodeCommand c = .ok .srst ↔ c = 0x0000000F#32) ∧
    ((∀ i, decodeCommand c ≠ .ok i) ↔
      c ∉ [0x00000000#32, 0x00000001#32, 0x00000002#32, 0x00000003#32, 0x00000004#32, 0x00000104#32, 0x0000000F#32])

/-- 30 R92 to R99: a word valid in a format is read in it, and a word of no format is rejected. -/
def Obligations.LineCodesReadInTheirFormats : Prop :=
  ∀ w : LineWord,
    (w = 0x88FFFF#24 → decodeLine w = .ok .leadin) ∧
    (w = 0x80EEEE#24 → decodeLine w = .ok .leadout) ∧
    (w = 0x82CFFF#24 → decodeLine w = .ok .stop) ∧
    (w = 0x87FFFF#24 → decodeLine w = .ok .clvmark) ∧
    ((Spec.picno w).isSome = true →
      decodeLine w =
        .ok (.picno (w.extractLsb' 19 1) (w.extractLsb' 16 3) (w.extractLsb' 12 4) (w.extractLsb' 8 4)
          (w.extractLsb' 4 4) (w.extractLsb' 0 4))) ∧
    ((Spec.timecode w).isSome = true →
      decodeLine w = .ok (.timecode (w.extractLsb' 16 4) (w.extractLsb' 4 4) (w.extractLsb' 0 4))) ∧
    ((Spec.chapter w).isSome = true →
      decodeLine w = .ok (.chapter (w.extractLsb' 19 1) (w.extractLsb' 16 3) (w.extractLsb' 12 4))) ∧
    ((Spec.clvsec w).isSome = true →
      decodeLine w =
        .ok (.clvsec (w.extractLsb' 16 4) (w.extractLsb' 8 4) (w.extractLsb' 4 4) (w.extractLsb' 0 4))) ∧
    (w.toNat / 0x1000 = 0x8DC →
      decodeLine w = .ok (.statusCxOn (w.extractLsb' 8 4) (w.extractLsb' 4 4) (w.extractLsb' 0 4))) ∧
    (w.toNat / 0x1000 = 0x8BA →
      decodeLine w = .ok (.statusCxOff (w.extractLsb' 8 4) (w.extractLsb' 4 4) (w.extractLsb' 0 4))) ∧
    ((Spec.usercode w).isSome = true →
      decodeLine w = .ok (.usercode (w.extractLsb' 16 4) (w.extractLsb' 0 12))) ∧
    ((∀ i, decodeLine w ≠ .ok i) ↔
      w ≠ 0x88FFFF#24 ∧ w ≠ 0x80EEEE#24 ∧ w ≠ 0x82CFFF#24 ∧ w ≠ 0x87FFFF#24 ∧
        w &&& 0xF00000#24 ≠ 0xF00000#24 ∧ w &&& 0xF0FF00#24 ≠ 0xF0DD00#24 ∧ w &&& 0xF00FFF#24 ≠ 0x800DDD#24 ∧
        w &&& 0xF0F000#24 ≠ 0x80E000#24 ∧ w &&& 0xFFF000#24 ≠ 0x8DC000#24 ∧ w &&& 0xFFF000#24 ≠ 0x8BA000#24 ∧
        w &&& 0xF0F000#24 ≠ 0x80D000#24)

/-- Decoding the encoding of a well-formed instruction gives it back, with every operand. -/
def Obligations.DecodeOfEncode : Prop := ∀ i : Instr, i.wf = true → decode (encode i) = .ok i

/-- An instruction that a word decodes to is well formed and encodes to that word: no bit of a word is dropped. -/
def Obligations.EncodeOfDecode : Prop :=
  ∀ (w : CodeWord) (i : Instr), decode w = .ok i → i.wf = true ∧ encode i = w

/-- A few words of the spec and what they stand for (30 R83, R92; 44 R215, R216, R218, R220, R227, R229). -/
def Obligations.DecodedWordsOfSpec : Prop :=
  decode (.command 0x00000104#32) = .ok (.venc 1#1) ∧
  decode (.command 0x0000000F#32) = .ok .srst ∧
  decode (.command 0x00000005#32) = .error .reservedOpcode ∧
  decode (.lineCode 0x88FFFF#24) = .ok .leadin ∧
  decode (.lineCode 0xF92345#24) = .ok (.picno 1#1 1#3 2#4 3#4 4#4 5#4) ∧
  decode (.lineCode 0xF1DD23#24) = .ok (.timecode 1#4 2#4 3#4) ∧
  decode (.lineCode 0x812DDD#24) = .ok (.chapter 0#1 1#3 2#4) ∧
  decode (.lineCode 0x8EE529#24) = .ok (.clvsec 14#4 5#4 2#4 9#4) ∧
  decode (.lineCode 0x8DC8A7#24) = .ok (.statusCxOn 8#4 10#4 7#4) ∧
  decode (.lineCode 0x83D1AB#24) = .ok (.usercode 3#4 0x1AB#12)

/-! ### The step, dispatch and the fault state -/

/-- When the host's next event is a write of `CMD` with a word that decodes, `step` is `exec` of the instruction on the
state without that event. `withFetchWord` presents a command word so; a line code it places alone in the VBI words, and
`step` then is the `VDEC` that reads it (logs 1, 2, 3; `LineCodeAgreesWithVdec` says that this is `exec` of the line
code). -/
def Obligations.StepRunsDecodedInstruction : Prop :=
  (∀ (s : State) (c : Word) (rest : List HostEvent) (i : Instr),
    s.host = .writeReg 0 c :: rest → decode (.command c) = .ok i → step s = exec i { s with host := rest }) ∧
  (∀ (s : State) (w : Nat) (i : Instr), decodeTableWord 32 w = some i → step (s.withFetchWord 32 w) = exec i s) ∧
  (∀ (s : State) (w : Nat) (i : Instr), decodeTableWord 24 w = some i →
    step (s.withFetchWord 24 w) = exec .vdec { s with vw := Spec.alone i (BitVec.ofNat 24 w) })

/-- 60_exceptions.md R263: an illegal command word raises `BadCommand` with the word as information, unless the block
is in the fault state, where the write is refused. -/
def Obligations.IllegalCommandRaisesBadCommand : Prop :=
  ∀ (s : State) (c : Word) (rest : List HostEvent),
    s.host = .writeReg 0 c :: rest →
    c ∉ [0x00000000#32, 0x00000001#32, 0x00000002#32, 0x00000003#32, 0x00000004#32, 0x00000104#32, 0x0000000F#32] →
    (s.status.fault = false → step s = .next (Spec.raised { s with host := rest } 1#8 c)) ∧
    (s.status.fault = true → step s = .next { s with host := rest })

/-- 40_commands.md R111: under fault every `CMD` write but `SRST` changes no state, and every other host access works
as always. -/
def Obligations.FaultRefusesEveryCommandButSrst : Prop :=
  ∀ (s : State) (rest : List HostEvent), s.status.fault = true →
    (∀ c, s.host = .writeReg 0 c :: rest → c ≠ 0x0000000F#32 → step s = .next { s with host := rest }) ∧
    (∀ k v, s.host = .writeReg k v :: rest → k ≠ 0 →
      step s =
        .next (match regAt k with
          | some r => { s with host := rest }.writeNamed r v
          | none => { s with host := rest })) ∧
    (∀ k, s.host = .readReg k :: rest → step s = .next { s with host := rest, portData := s.readReg k }) ∧
    (∀ sp k v, s.host = .writeBuf sp k v :: rest → step s = .next ({ s with host := rest }.writeBuf sp k v)) ∧
    (∀ sp k, s.host = .readBuf sp k :: rest →
      step s = .next { s with host := rest, portData := (s.readBuf sp k).setWidth 32 })

/-- 60 R273, 10 R26: the fault and its description stay until `SRST` or the reset input. -/
def Obligations.FaultStaysUntilReset : Prop :=
  ∀ s t : State, s.status.fault = true → step s = .next t →
    (t.status.fault = true ∧ t.status.err = s.status.err ∧ t.errInfo = s.errInfo) ∨
      ∃ rest, s.host = .resetInput :: rest ∨ s.host = .writeReg 0 0x0000000F#32 :: rest

/-- 70_reset_and_hazards.md R304, 60 R277: every instruction and every step answers a next state, on every state. -/
def Obligations.EveryStepAnswersNext : Prop :=
  (∀ s : State, ∃ t, step s = .next t) ∧ (∀ (i : Instr) (s : State), ∃ t, exec i s = .next t)

/-- 40 R112: `NOP` answers the state it was given. -/
def Obligations.NopChangesNothing : Prop := ∀ s : State, exec .nop s = .next s

/-! ### `CFG`, `SRST`, reset -/

/-- 40 R114, R117: a `CFG` whose checks hold latches the staged registers, keeps `PREV` only with the staged geometry,
and changes nothing else (the model's own counter of the contents of `RGB` apart). -/
def Obligations.CfgLatches : Prop :=
  ∀ s : State, s.status.fault = false →
    5 ≤ s.vp.fieldWidth.toNat → s.vp.fieldWidth.toNat ≤ 911 →
    1 ≤ s.vp.fieldHeight.toNat → 2 * s.vp.fieldHeight.toNat - 1 ≤ 526 →
    2 ≤ s.vp.activeStart.toNat → s.vp.activeStart.toNat < s.vp.activeEnd.toNat →
    s.vp.activeEnd.toNat + 2 ≤ s.vp.fieldWidth.toNat → s.vp.black.toNat < s.vp.white.toNat →
    ∃ (p : Option FrameBuffer) (e : Nat),
      exec .cfg s =
        .next { s with
          actVp := s.vp
          actCc := s.cc
          prev := p
          status := { s.status with configured := true, frameValid := false }
          rgbEpoch := e } ∧
      ∀ f, p = some f ↔
        s.prev = some f ∧
          f.geom = ⟨s.vp.fieldWidth, s.vp.fieldHeight, s.vp.activeStart, s.vp.activeEnd⟩

/-- 40 R116, 60 R265, R269: the checks of `CFG` in their order; the first that fails is raised and nothing is latched.
With all four the `CFG` succeeds. -/
def Obligations.CfgChecksInOrder : Prop :=
  ∀ s : State, s.status.fault = false →
    let w := s.vp.fieldWidth.toNat
    let h := s.vp.fieldHeight.toNat
    let a := s.vp.activeStart.toNat
    let b := s.vp.activeEnd.toNat
    let bk := s.vp.black.toNat
    let wh := s.vp.white.toNat
    let ok1 := 5 ≤ w ∧ w ≤ 911
    let ok2 := 1 ≤ h ∧ 2 * h - 1 ≤ 526
    let ok3 := 2 ≤ a ∧ a < b ∧ b + 2 ≤ w
    (¬ok1 → exec .cfg s = .next (Spec.raised s 3#8 (BitVec.ofNat 32 (0x00010000 + w)))) ∧
    (ok1 → ¬ok2 → exec .cfg s = .next (Spec.raised s 3#8 (BitVec.ofNat 32 (0x00020000 + h)))) ∧
    (ok1 → ok2 → ¬ok3 → exec .cfg s = .next (Spec.raised s 3#8 (BitVec.ofNat 32 (0x00030000 + a)))) ∧
    (ok1 → ok2 → ok3 → ¬bk < wh → exec .cfg s = .next (Spec.raised s 7#8 (BitVec.ofNat 32 (0x10000 * wh + bk)))) ∧
    (ok1 → ok2 → ok3 → bk < wh →
      ∃ t, exec .cfg s = .next t ∧ t.status.fault = false ∧ t.status.configured = true ∧ t.status.err = s.status.err)

/-- 10_state.md R28, R31, R35: after a `CFG` that succeeds every active register reads as its staged one, 0x50 below. -/
def Obligations.ActiveRegistersReadAsStaged : Prop :=
  ∀ s t : State, exec .cfg s = .next t → t.status.fault = false →
    (∀ k, k < 9 → t.readReg (0x60 + k) = s.readReg (0x10 + k)) ∧
      ∀ k, k < 4 → t.readReg (0x70 + k) = s.readReg (0x20 + k)

/-- 40 R119: `SRST` answers, on every state, the state with every register at its reset value; the contents of `F1`,
`F2`, `RGB` and `CUR` are left open, and the host's own fields are not LDCORE's. It is the only command accepted under
fault: each of the other five answers the state it was given. -/
def Obligations.SrstResets : Prop :=
  (∀ s : State, s.status.fault = true →
    exec .nop s = .next s ∧ exec .cfg s = .next s ∧ exec .decf s = .next s ∧ exec .vdec s = .next s ∧
    ∀ p, exec (.venc p) s = .next s) ∧
  ∀ s : State, ∃ (f1 f2 rgb : Memory) (e0 e1 e2 : Nat),
    exec .srst s =
      .next { s with
        status := ⟨false, false, false, false, 0#8⟩
        errInfo := 0#32
        vp := ⟨0#16, 0#16, 0#16, 0#16, 0#16, 0#16, 0#16, 0#16, 0#1⟩
        cc := ⟨0#10, 0#5, 0#8, 0#8⟩
        actVp := ⟨0#16, 0#16, 0#16, 0#16, 0#16, 0#16, 0#16, 0#16, 0#1⟩
        actCc := ⟨0#10, 0#5, 0#8, 0#8⟩
        f1Len := 0#18
        f1Phase := 0#3
        f2Len := 0#18
        f2Phase := 0#3
        frWidth := 0#16
        frHeight := 0#16
        vw := ⟨0#24, 0#24, 0#24, 0#24, 0#24, 0#24⟩
        vr := ⟨0#2, 0xFFFFFFFF#32, 0xFFFFFFFF#32, 0xFFFFFFFF#32, 0xFFFFFFFF#32, 0xFFFFFFFF#32, 0xFFFFFFFF#32,
          0#13, 0xBB#8, 0#17⟩
        prev := none
        f1 := f1
        f2 := f2
        rgb := rgb
        curEpoch := e0
        powerEpoch := e1
        rgbEpoch := e2 }

/-- 10 R52, 70 R290: what every register reads right after reset and after `SRST`, at every index, and that there is
no previous frame. -/
def Obligations.RegistersReadAfterReset : Prop :=
  ∀ t : State, t = State.reset ∨ (∃ s, exec .srst s = .next t) →
    t.prev = none ∧ ∀ k, t.readReg k =
      if 0x49 ≤ k ∧ k ≤ 0x4E then 0xFFFFFFFF#32 else if k = 0x50 then 0x000000BB#32 else 0#32

/-- 70 R291, R292: the reset input has the effect of `SRST`, and after either the elements of the three buffers are
the model's free values until they are written, and so is what `CUR` holds (logs 6, 7, 8, 11). -/
def Obligations.ResetInputActsAsSrst : Prop :=
  ∀ (s t : State) (rest : List HostEvent),
    (s.host = .resetInput :: rest → step s = exec .srst { s with host := rest }) ∧
    (exec .srst s = .next t →
      (∀ k, k < 239593 → t.readBuf .f1 k = Config.freeField t.powerEpoch false k) ∧
      (∀ k, k < 239593 → t.readBuf .f2 k = Config.freeField t.powerEpoch true k) ∧
      (∀ k, k < 1437558 → t.readBuf .rgb k = Config.freeRgb t.rgbEpoch k) ∧
      t.curFrame = Config.freeFrame t.curEpoch)

/-! ### `DECF` -/

/-- 41_comb_separation.md R131, 60 R264, R267: the checks of `DECF` in their order; the first that fails is raised. -/
def Obligations.DecfChecksInOrder : Prop :=
  ∀ s : State, s.status.fault = false →
    let n := s.actVp.fieldWidth.toNat * s.actVp.fieldHeight.toNat
    let ok5 := 1 ≤ s.f1Phase.toNat ∧ s.f1Phase.toNat ≤ 4
    let ok6 := 1 ≤ s.f2Phase.toNat ∧ s.f2Phase.toNat ≤ 4
    let fails := fun (code : BitVec 8) (info : Word) => ∃ e, exec .decf s = .next (Spec.decfFailed s e code info)
    (s.status.configured = false → fails 2#8 0#32) ∧
    (s.status.configured = true → s.actVp.isPal = 1#1 → fails 6#8 0#32) ∧
    (s.status.configured = true → s.actVp.isPal = 0#1 → s.f1Len.toNat ≠ n →
      fails 4#8 (BitVec.ofNat 32 s.f1Len.toNat)) ∧
    (s.status.configured = true → s.actVp.isPal = 0#1 → s.f1Len.toNat = n → s.f2Len.toNat ≠ n →
      fails 4#8 (BitVec.ofNat 32 (0x80000000 + s.f2Len.toNat))) ∧
    (s.status.configured = true → s.actVp.isPal = 0#1 → s.f1Len.toNat = n → s.f2Len.toNat = n → ¬ok5 →
      fails 5#8 (BitVec.ofNat 32 s.f1Phase.toNat)) ∧
    (s.status.configured = true → s.actVp.isPal = 0#1 → s.f1Len.toNat = n → s.f2Len.toNat = n → ok5 → ¬ok6 →
      fails 5#8 (BitVec.ofNat 32 (0x80000000 + s.f2Phase.toNat)))

/-- 41 R152: a `DECF` whose checks hold completes; `PREV` becomes the frame buffer it built, and nothing changes but
the frame, its descriptor, the three status bits and the content of `CUR`, which is left open (log 8). A `DECF` that
does not complete leaves `PREV` as it was. -/
def Obligations.DecfCompletes : Prop :=
  (∀ s : State, s.decfReady = true →
    ∃ (f : FrameBuffer) (m : Memory) (d3 : Bool) (e0 e1 : Nat),
      exec .decf s =
        .next { s with
          prev := some f
          rgb := m
          frWidth := s.actVp.fieldWidth
          frHeight := BitVec.ofNat 16 (2 * s.actVp.fieldHeight.toNat - 1)
          status := { s.status with frame3D := d3, frameValid := true }
          curEpoch := e0
          rgbEpoch := e1 } ∧
      (d3 = true ↔ Spec.useThree s) ∧
      f.geom = ⟨s.actVp.fieldWidth, s.actVp.fieldHeight, s.actVp.activeStart, s.actVp.activeEnd⟩ ∧
      f.p1 = s.f1Phase ∧ f.p2 = s.f2Phase ∧
      ∀ k, (Memory.read m k).isSome = true ↔
        k < (2 * s.actVp.fieldHeight.toNat - 1) * s.actVp.fieldWidth.toNat * 3) ∧
  (∀ s t : State, s.decfReady = false → exec .decf s = .next t → t.prev = s.prev ∧ t.prevValid = s.prevValid)

/-- 41 R132: frame assembly, the first field on the even lines and the second on the odd ones. The frame buffer built
is the one that `PREV` takes (R152). -/
def Obligations.DecfAssemblesFrame : Prop :=
  ∀ s : State, s.decfReady = true → ∃ t f, exec .decf s = .next t ∧ t.prev = some f ∧
    f.raw.length = 2 * s.actVp.fieldHeight.toNat - 1 ∧
    ∀ y x, y < 2 * s.actVp.fieldHeight.toNat - 1 → x < s.actVp.fieldWidth.toNat →
      planeAt f.raw y x =
        if y % 2 = 0 then ((s.fieldElem false (y / 2 * s.actVp.fieldWidth.toNat + x)).toNat : Int)
        else ((s.fieldElem true ((y - 1) / 2 * s.actVp.fieldWidth.toNat + x)).toNat : Int)

/-- 41 R136, R137: the 1D estimate on the active window, its range and its divisibility; 0 outside. Every column of
the active window of a configuration that `CFG` accepts has the form `x + 2` (40 R116, check 3). -/
def Obligations.DecfOneDimensional : Prop :=
  ∀ s : State, s.decfReady = true → ∃ t f, exec .decf s = .next t ∧ t.prev = some f ∧
    (∀ y x, Spec.inWindow s y (x + 2) →
      planeAt f.clp0 y (x + 2) =
        4 * (2 * planeAt f.raw y (x + 2) - planeAt f.raw y x - planeAt f.raw y (x + 4)) ∧
      -524280 ≤ planeAt f.clp0 y (x + 2) ∧ planeAt f.clp0 y (x + 2) ≤ 524280 ∧
      4 ∣ planeAt f.clp0 y (x + 2)) ∧
    (∀ y x, ¬Spec.inWindow s y x →
      planeAt f.clp0 y x = 0 ∧ planeAt f.clp1 y x = 0 ∧ planeAt f.clp2 y x = 0 ∧
      planeAt f.kv y x = 0 ∧ planeAt f.yiqY y x = 0 ∧ planeAt f.yiqI y x = 0 ∧
      planeAt f.yiqQ y x = 0)

/-- 41 R138, R139: the 2D estimate, exact, on a line with both neighbours; the 1D estimate on the others. -/
def Obligations.DecfTwoDimensional : Prop :=
  ∀ s : State, s.decfReady = true → ∃ t f, exec .decf s = .next t ∧ t.prev = some f ∧
    (∀ y x, Spec.inWindow s (y + 2) x → y + 4 < 2 * s.actVp.fieldHeight.toNat - 1 →
      4 * planeAt f.clp1 (y + 2) x =
        2 * planeAt f.clp0 (y + 2) x - planeAt f.clp0 y x - planeAt f.clp0 (y + 4) x ∧
      -524280 ≤ planeAt f.clp1 (y + 2) x ∧ planeAt f.clp1 (y + 2) x ≤ 524280) ∧
    (∀ y x, Spec.inWindow s y x → y < 2 ∨ 2 * s.actVp.fieldHeight.toNat - 1 ≤ y + 2 →
      planeAt f.clp1 y x = planeAt f.clp0 y x)

/-- 41 R141, R143, R145: the 3D estimate and the confidence when the previous frame is used; all 0, and `FRAME_3D`
cleared, when it is not. Every column of the active window of a configuration that `CFG` accepts has the form `x + 2`
(40 R116, check 3). -/
def Obligations.DecfThreeDimensional : Prop :=
  ∀ s : State, s.decfReady = true → ∃ t f, exec .decf s = .next t ∧ t.prev = some f ∧
    (∀ g, s.prev = some g → Spec.useThree s →
      t.status.frame3D = true ∧
      ∀ y x, Spec.inWindow s y (x + 2) →
        let lc := planeAt f.raw y x + 2 * planeAt f.raw y (x + 2) + planeAt f.raw y (x + 4)
        let lp := planeAt g.raw y x + 2 * planeAt g.raw y (x + 2) + planeAt g.raw y (x + 4)
        planeAt f.clp2 y (x + 2) = 8 * (planeAt f.raw y (x + 2) - planeAt g.raw y (x + 2)) ∧
        planeAt f.kv y (x + 2) = 256 - min 256 ((6400 * |lc - lp|) / (10 * Spec.w100 s))) ∧
    (¬Spec.useThree s →
      t.status.frame3D = false ∧ ∀ y x, planeAt f.clp2 y x = 0 ∧ planeAt f.kv y x = 0)

/-- 41 R134: consecutive lines of one field have opposite signs, and the same line of two frames has opposite signs
exactly when `posEven` of the field's phase ID differs. -/
def Obligations.SubcarrierSignAlternates : Prop :=
  (∀ (p1 p2 : BitVec 3) (y : Nat), sigma p1 p2 (y + 2) = -sigma p1 p2 y) ∧
  (∀ (p1 p2 q1 q2 : BitVec 3) (y : Nat),
    sigma p1 p2 y = -sigma q1 q2 y ↔
      if y % 2 = 0 then ¬((p1 = 1#3 ∨ p1 = 4#3) ↔ (q1 = 1#3 ∨ q1 = 4#3))
      else ¬((p2 = 1#3 ∨ p2 = 4#3) ↔ (q2 = 1#3 ∨ q2 = 4#3))) ∧
  (∀ (p1 p2 : BitVec 3) (y : Nat), sigma p1 p2 y = Spec.sign p1 p2 y)

/-- 41 R145, R147: the confidence falls from 256 to 0 and never rises with the difference, and the blend lies between
the two estimates and is exactly one of them at either end. -/
def Obligations.ConfidenceAndBlend : Prop :=
  (∀ (c : CombParams) (d d' : Int), 0 < c.w100 → 0 ≤ d → d ≤ d' →
    0 ≤ confidence c d' ∧ confidence c d' ≤ confidence c d ∧ confidence c d ≤ 256 ∧ confidence c 0 = 256 ∧
      (2 * c.w100 ≤ 5 * d → confidence c d = 0)) ∧
  (∀ k e3 e2 : Int, 0 ≤ k → k ≤ 256 →
    min e2 e3 ≤ blend k e3 e2 ∧ blend k e3 e2 ≤ max e2 e3 ∧ blend 256 e3 e2 = e3 ∧ blend 0 e3 e2 = e2)

/-- 42_iq_demod_filters.md R160 and 41 R130: the planes after demodulation in closed form, and the stages 4 to 6 that
lead from them to the frame's YIQ. -/
def Obligations.DecfDemodulates : Prop :=
  ∀ s : State, s.decfReady = true → ∃ (t : State) (f : FrameBuffer) (yy yi yq : Plane),
    exec .decf s = .next t ∧ t.prev = some f ∧
    f.yiqI = doCNR s.params (lowpassI s.params yi) ∧
    f.yiqQ = doCNR s.params (lowpassQ s.params yq) ∧
    f.yiqY = adjustY s.params s.f1Phase s.f2Phase (doYNR s.params yy) f.yiqI f.yiqQ ∧
    ∀ y x, Spec.inWindow s y x →
      let c := Spec.csel t.status.frame3D f y x
      let sg := Spec.sign s.f1Phase s.f2Phase y
      planeAt yy y x = 16 * planeAt f.raw y x ∧
      (x % 4 = 0 → planeAt yq y x = sg * c) ∧
      (x % 4 = 1 → planeAt yi y x = -sg * c) ∧
      (x % 4 = 2 → planeAt yq y x = -sg * c) ∧
      (x % 4 = 3 → planeAt yi y x = sg * c) ∧
      (x % 2 = 0 → x = s.actVp.activeStart.toNat → planeAt yi y x = 0) ∧
      (x % 2 = 1 → x = s.actVp.activeStart.toNat → planeAt yq y x = 0) ∧
      (x % 2 = 0 → s.actVp.activeStart.toNat < x → planeAt yi y x = planeAt yi y (x - 1)) ∧
      (x % 2 = 1 → s.actVp.activeStart.toNat < x → planeAt yq y x = planeAt yq y (x - 1))

/-- 42 R164, R165, R166: the chroma low-pass on either channel, with edge replication; the output of a filter lies
between the bounds of its inputs. -/
def Obligations.ChromaLowPass : Prop :=
  ∀ (c : CombParams) (v : Plane),
    (c.colorlpf = false → lowpassI c v = v ∧ lowpassQ c v = v) ∧
    (c.colorlpf = true →
      (∀ y x, ¬Spec.windowOf c y x → planeAt (lowpassI c v) y x = 0 ∧ planeAt (lowpassQ c v) y x = 0) ∧
      ∀ y x, Spec.windowOf c y x →
        planeAt (lowpassI c v) y x = Spec.firI c v y x ∧
        (c.colorlpfHq = true → planeAt (lowpassQ c v) y x = Spec.firI c v y x) ∧
        (c.colorlpfHq = false → planeAt (lowpassQ c v) y x = Spec.firQ c v y x) ∧
        ∀ lo hi : Int, (∀ x', c.avs ≤ x' → x' < c.ave → lo ≤ planeAt v y x' ∧ planeAt v y x' ≤ hi) →
          lo ≤ planeAt (lowpassI c v) y x ∧ planeAt (lowpassI c v) y x ≤ hi ∧
          lo ≤ planeAt (lowpassQ c v) y x ∧ planeAt (lowpassQ c v) y x ≤ hi)

/-- 42 R170 to R173: the two noise reducers, skipped at level 0. -/
def Obligations.NoiseReducersCore : Prop :=
  ∀ (c : CombParams) (v : Plane),
    (c.cnr = 0 → doCNR c v = v) ∧ (c.ynr = 0 → doYNR c v = v) ∧
    (0 < c.cnr → 0 < c.w100 →
      ∀ y x, Spec.windowOf c y x → planeAt (doCNR c v) y x = Spec.cored c v (c.cnr * c.w100 / 100) y x) ∧
    (0 < c.ynr → 0 < c.w100 →
      ∀ y x, Spec.windowOf c y x → planeAt (doYNR c v) y x = Spec.cored c v (c.ynr * c.w100 / 100) y x)

/-- 42 R174, which the spec derives from R170 to R173: at level 0 each reducer is skipped; and a `DECF` at
levels so small that both thresholds are 0 answers the state that the same `DECF` answers at level 0. -/
def Obligations.SmallLevelsAreBypass : Prop :=
  (∀ (c : CombParams) (v : Plane), (c.cnr = 0 → doCNR c v = v) ∧ (c.ynr = 0 → doYNR c v = v)) ∧
  ∀ s t : State, exec .decf s = .next t →
    s.params.cnr * s.params.w100 / 100 = 0 → s.params.ynr * s.params.w100 / 100 = 0 →
    exec .decf { s with actCc := { s.actCc with cnrLevel := 0#8, ynrLevel := 0#8 } } =
      .next { t with actCc := { s.actCc with cnrLevel := 0#8, ynrLevel := 0#8 } }

/-- 42 R176: `adjustY` subtracts the re-modulated chroma. -/
def Obligations.LumaAdjustment : Prop :=
  ∀ (c : CombParams) (p1 p2 : BitVec 3) (yv i q : Plane) (y x : Nat), Spec.windowOf c y x →
    let out := planeAt (adjustY c p1 p2 yv i q) y x
    let sg := Spec.sign p1 p2 y
    (x % 4 = 0 → out = planeAt yv y x - sg * planeAt q y x) ∧
    (x % 4 = 1 → out = planeAt yv y x + sg * planeAt i y x) ∧
    (x % 4 = 2 → out = planeAt yv y x + sg * planeAt q y x) ∧
    (x % 4 = 3 → out = planeAt yv y x - sg * planeAt i y x)

/-- 42 R177, which the spec derives from R160 and R176: with no filter and no noise reduction the luma is the composite
minus the separated chroma. -/
def Obligations.LumaIsCompositeMinusChroma : Prop :=
  ∀ s : State, s.decfReady = true → s.actCc.flags.getLsbD 0 = false → s.actCc.cnrLevel = 0#8 →
    s.actCc.ynrLevel = 0#8 →
    ∃ t f, exec .decf s = .next t ∧ t.prev = some f ∧
      ∀ y x, Spec.inWindow s y x →
        planeAt f.yiqY y x = 16 * planeAt f.raw y x - Spec.csel t.status.frame3D f y x

/-- 42 R182, 10 R48: the bounds of every plane of the frame buffer after a `DECF`, whatever the samples and the
registers, in a state that satisfies the invariant. -/
def Obligations.PipelineBounds : Prop :=
  ∀ s : State, s.inv = true → s.decfReady = true → ∃ t f, exec .decf s = .next t ∧ t.prev = some f ∧
    ∀ y x,
      (0 ≤ planeAt f.raw y x ∧ planeAt f.raw y x ≤ 65535) ∧
      |planeAt f.clp0 y x| ≤ 524280 ∧ |planeAt f.clp1 y x| ≤ 524280 ∧ |planeAt f.clp2 y x| ≤ 524280 ∧
      (0 ≤ planeAt f.kv y x ∧ planeAt f.kv y x ≤ 256) ∧
      |planeAt f.yiqI y x| ≤ 691394 ∧ |planeAt f.yiqQ y x| ≤ 691394 ∧
      (-858508 ≤ planeAt f.yiqY y x ∧ planeAt f.yiqY y x ≤ 1907068)

/-- 43_rgb_xform.md R192, R193, R194, R196: what the host reads of every pixel of the frame. -/
def Obligations.HostReadsConvertedPixels : Prop :=
  ∀ s : State, s.decfReady = true → ∃ t f, exec .decf s = .next t ∧ t.prev = some f ∧
    ∀ y x, y < 2 * s.actVp.fieldHeight.toNat - 1 → x < s.actVp.fieldWidth.toNat →
      (y * s.actVp.fieldWidth.toNat + x) * 3 + 2 < 1437558 →
      let out := fun k : Nat => ((t.readBuf .rgb ((y * s.actVp.fieldWidth.toNat + x) * 3 + k)).toNat : Int)
      let k := planeAt f.kv y x
      let overlay := s.actCc.flags.getLsbD 4 = true ∧ Spec.useThree s ∧ k < 256
      let num : Int := if s.actCc.flags.getLsbD 2 = true then 5 else 4
      let g : Int := s.actCc.chromaGain.toNat
      let clip := fun v : Int => max 0 (min 65535 v)
      let yS := clip ((2 * ((planeAt f.yiqY y x - 16 * s.actVp.black.toNat) * 65535 * num) + 64 * Spec.w100 s)
        / (2 * (64 * Spec.w100 s)))
      let cS := fun v : Int => (2 * (v * 65535 * num * g) + 64 * Spec.w100 s * 256) / (2 * (64 * Spec.w100 s * 256))
      let iS := cS (planeAt f.yiqI y x)
      let qS := cS (planeAt f.yiqQ y x)
      (¬Spec.inWindow s y x → out 0 = 0 ∧ out 1 = 0 ∧ out 2 = 0) ∧
      (Spec.inWindow s y x → overlay → out 0 = 65535 ∧ out 1 = 255 * k ∧ out 2 = 255 * k) ∧
      (Spec.inWindow s y x → ¬overlay →
        out 0 = clip (yS + (2 * (979 * iS + 636 * qS) + 1024) / 2048) ∧
        out 1 = clip (yS + (2 * (-279 * iS - 663 * qS) + 1024) / 2048) ∧
        out 2 = clip (yS + (2 * (-1134 * iS + 1745 * qS) + 1024) / 2048))

/-- 43 R198 (a), (b), (c): grey without chroma or without gain, the luma scale never falls, and its two reference
points. -/
def Obligations.GreyAndLumaScale : Prop :=
  (∀ (c : CombParams) (y i q : Int), (i = 0 ∧ q = 0) ∨ c.g = 0 → 0 < c.w100 →
    yiqToRgb c y i q = ⟨lumaScale c y, lumaScale c y, lumaScale c y⟩) ∧
  (∀ (c : CombParams) (v w : Int), 0 < c.w100 → v ≤ w → lumaScale c v ≤ lumaScale c w) ∧
  (∀ c : CombParams, 0 < c.w100 → c.whitePoint75 = false →
    lumaScale c (16 * c.black) = 0 ∧ lumaScale c (16 * c.white) = 65535)

/-- 41 R142, which the spec derives from R140 and R141: with no previous frame a `DECF` with `use3D`
and the overlay at any value answers the state that the same `DECF` answers at any other value of the two flags. -/
def Obligations.FirstFrameIsTwoDimensional : Prop :=
  ∀ (s t : State) (fl : BitVec 5), s.prev = none → fl.extractLsb' 0 3 = s.actCc.flags.extractLsb' 0 3 →
    exec .decf s = .next t →
    exec .decf { s with actCc := { s.actCc with flags := fl } } =
      .next { t with actCc := { s.actCc with flags := fl } }

/-- 43 R197, which the spec derives from R196: the overlay flag changes `RGB` alone, and there only
the pixels of the active window whose confidence is below 256 in a frame that used 3D. -/
def Obligations.OverlayChangesOverlayPixelsOnly : Prop :=
  ∀ (s t : State) (fl : BitVec 5), fl.extractLsb' 0 4 = s.actCc.flags.extractLsb' 0 4 →
    s.decfReady = true → exec .decf s = .next t →
    ∃ (m : Memory) (f : FrameBuffer), t.prev = some f ∧
      exec .decf { s with actCc := { s.actCc with flags := fl } } =
        .next { t with actCc := { s.actCc with flags := fl }, rgb := m } ∧
      (t.status.frame3D = false → m = t.rgb) ∧
      ∀ y x k, x < s.actVp.fieldWidth.toNat → k < 3 →
        ¬Spec.inWindow s y x ∨ planeAt f.kv y x = 256 →
        Memory.read m ((y * s.actVp.fieldWidth.toNat + x) * 3 + k) =
          Memory.read t.rgb ((y * s.actVp.fieldWidth.toNat + x) * 3 + k)

/-- 41 R131, R132: `DECF` reads no element of `F1` at or beyond `fieldWidth * fieldHeight`, and of `F2` not even the
last line of the field. -/
def Obligations.DecfReadsOnlyTheFields : Prop :=
  ∀ (s t : State) (m1 m2 : Memory), exec .decf s = .next t →
    (∀ k, k < s.actVp.fieldWidth.toNat * s.actVp.fieldHeight.toNat →
      { s with f1 := m1, f2 := m2 }.fieldElem false k = s.fieldElem false k) →
    (∀ k, k < s.actVp.fieldWidth.toNat * (s.actVp.fieldHeight.toNat - 1) →
      { s with f1 := m1, f2 := m2 }.fieldElem true k = s.fieldElem true k) →
    exec .decf { s with f1 := m1, f2 := m2 } = .next { t with f1 := m1, f2 := m2 }

/-- 10 R31, R38, 20_memory.md R69: `DECF` neither reads nor writes the staged registers and the VBI registers, and
`VDEC` and `VENC` neither read nor write any comb state. -/
def Obligations.CombAndVbiAreIndependent : Prop :=
  (∀ (s t : State) (vp : VideoParams) (cc : CombConfig) (vw : VbiWords) (vr : VbiRec), exec .decf s = .next t →
    exec .decf { s with vp := vp, cc := cc, vw := vw, vr := vr } =
      .next { t with vp := vp, cc := cc, vw := vw, vr := vr } ∧
    t.vp = s.vp ∧ t.cc = s.cc ∧ t.vw = s.vw ∧ t.vr = s.vr) ∧
  (∀ (i : Instr) (s t u : State), i = .vdec ∨ i = .venc 0#1 ∨ i = .venc 1#1 → exec i s = .next t →
    u.status.fault = s.status.fault → u.vw = s.vw → u.vr = s.vr → exec i u = .next { u with vw := t.vw, vr := t.vr })

/-! ### `VDEC` -/

/-- 44_vbi_decode.md R213: the two lead flags, from the four words of lines 17 and 18; and what they suppress. -/
def Obligations.VdecLeadFlags : Prop :=
  ∀ s : State, s.status.fault = false → ∃ r, exec .vdec s = .next { s with vr := r } ∧
    (r.flags.getLsbD 0 = true ↔ Spec.onLines1718 s.vw 0x88FFFF#24) ∧
    (r.flags.getLsbD 1 = true ↔ Spec.onLines1718 s.vw 0x80EEEE#24) ∧
    (¬Spec.noLead s.vw →
      r.discType = 0#2 ∧ r.picNo = 0xFFFFFFFF#32 ∧ r.chNo = 0xFFFFFFFF#32 ∧ r.clvHr = 0xFFFFFFFF#32 ∧
      r.clvMin = 0xFFFFFFFF#32 ∧ r.clvSec = 0xFFFFFFFF#32 ∧ r.clvPicNo = 0xFFFFFFFF#32 ∧
      r.flags.getLsbD 2 = false)

/-- 44 R215, R216, R217: the picture number, the time code only without it, and the disc type they give. -/
def Obligations.VdecNumbersAndType : Prop :=
  ∀ s : State, s.status.fault = false → Spec.noLead s.vw → ∃ r, exec .vdec s = .next { s with vr := r } ∧
    let pic := (Spec.picno s.vw.w117).or (Spec.picno s.vw.w118)
    let clock := if pic = none then (Spec.timecode s.vw.w117).or (Spec.timecode s.vw.w118) else none
    r.picNo = Spec.number pic ∧
    r.clvHr = Spec.number (clock.map Prod.fst) ∧ r.clvMin = Spec.number (clock.map Prod.snd) ∧
    r.discType =
      if pic ≠ none then 1#2 else if clock ≠ none ∨ s.vw.w216 = 0x87FFFF#24 then 2#2 else 0#2

/-- 44 R218, R219, R220: the chapter number, on line 18 alone for CLV; the stop flag; the second and the
picture-in-second. -/
def Obligations.VdecChapterStopSecond : Prop :=
  ∀ s : State, s.status.fault = false → Spec.noLead s.vw → ∃ r, exec .vdec s = .next { s with vr := r } ∧
    let sec := (Spec.clvsec s.vw.w116).or (Spec.clvsec s.vw.w216)
    r.chNo =
      Spec.number (if r.discType = 2#2 then Spec.chapter s.vw.w218
        else (Spec.chapter s.vw.w217).or (Spec.chapter s.vw.w218)) ∧
    (r.flags.getLsbD 2 = true ↔ s.vw.w216 = 0x82CFFF#24 ∨ s.vw.w217 = 0x82CFFF#24) ∧
    r.clvSec = Spec.number (sec.map Prod.fst) ∧ r.clvPicNo = Spec.number (sec.map Prod.snd)

/-- 44 R225, R227, R228: the programme status of the first status word of line 16, always; its defaults without
one. -/
def Obligations.VdecProgrammeStatus : Prop :=
  ∀ s : State, s.status.fault = false → ∃ r, exec .vdec s = .next { s with vr := r } ∧
    (¬Spec.isStatus s.vw.w116 → ¬Spec.isStatus s.vw.w216 → r.flags.toNat / 8 = 0 ∧ r.sound = 0xBB#8) ∧
    ∀ c : LineWord,
      (Spec.isStatus s.vw.w116 ∧ c = s.vw.w116) ∨
        (¬Spec.isStatus s.vw.w116 ∧ Spec.isStatus s.vw.w216 ∧ c = s.vw.w216) →
      let bit := fun k : Nat => c.toNat / 2 ^ k % 2
      let a := Spec.aud.getD (8 * bit 7 + 4 * bit 8 + 2 * bit 6 + bit 5) (0, 0, 0)
      let ok := (bit 3 + bit 7 + bit 6 + bit 4) % 2 = 0 ∧ (bit 2 + bit 7 + bit 5 + bit 4) % 2 = 0 ∧
        (bit 1 + bit 6 + bit 5 + bit 4) % 2 = 0
      r.flags.toNat / 8 =
        (if c.toNat / 0x1000 = 0x8DC then 1 else 0) + 2 * (1 - bit 11) + 4 * (1 - bit 10) + 8 * bit 9 + 16 * a.1
          + 32 * a.2.1 + 64 * bit 7 + 128 * (if ok then 1 else 0) + 256 * bit 8 + 512 * bit 7 ∧
      r.sound.toNat = a.2.2 + 16 * Spec.aud2.getD (4 * bit 6 + 2 * bit 5 + bit 4) 0

/-- 44 R229: the user code of the first valid word of line 16, only in lead-in or lead-out. -/
def Obligations.VdecUserCode : Prop :=
  ∀ s : State, s.status.fault = false → ∃ r, exec .vdec s = .next { s with vr := r } ∧
    (Spec.noLead s.vw → r.userCode = 0#17) ∧
    (¬Spec.noLead s.vw →
      r.userCode =
        match (Spec.usercode s.vw.w116).or (Spec.usercode s.vw.w216) with
        | some u => BitVec.ofNat 17 (0x10000 + u)
        | none => 0#17)

/-- 44 R221, R231, 10 R41: the record shows the state the decision sequence ends in; it never leaves
a picture number beside a time code, its type follows from what it found, and no value outside a field's range is
written. -/
def Obligations.VdecDecisionAndRanges : Prop :=
  ∀ s : State, s.status.fault = false → ∃ r, exec .vdec s = .next { s with vr := r } ∧
    (Spec.inLead r ↔ decisionState s.vw = .leadIO) ∧ (r.discType = 1#2 ↔ decisionState s.vw = .cav) ∧
    (r.discType = 2#2 ↔ decisionState s.vw = .clv) ∧
    (r.discType = 1#2 ↔ r.picNo ≠ 0xFFFFFFFF#32) ∧
    (r.discType = 2#2 → r.picNo = 0xFFFFFFFF#32) ∧ (r.clvHr ≠ 0xFFFFFFFF#32 → r.discType = 2#2) ∧
    (r.clvHr = 0xFFFFFFFF#32 ↔ r.clvMin = 0xFFFFFFFF#32) ∧ (r.clvSec = 0xFFFFFFFF#32 ↔ r.clvPicNo = 0xFFFFFFFF#32) ∧
    (r.discType = 2#2 → s.vw.w216 = 0x87FFFF#24 → r.flags.getLsbD 2 = true → s.vw.w217 = 0x82CFFF#24) ∧
    r.discType ≠ 3#2 ∧
    (r.picNo = 0xFFFFFFFF#32 ∨ r.picNo.toNat ≤ 79999) ∧ (r.chNo = 0xFFFFFFFF#32 ∨ r.chNo.toNat ≤ 79) ∧
    (r.clvHr = 0xFFFFFFFF#32 ∨ r.clvHr.toNat ≤ 9) ∧ (r.clvMin = 0xFFFFFFFF#32 ∨ r.clvMin.toNat ≤ 59) ∧
    (r.clvSec = 0xFFFFFFFF#32 ∨ r.clvSec.toNat ≤ 59) ∧ (r.clvPicNo = 0xFFFFFFFF#32 ∨ r.clvPicNo.toNat ≤ 99) ∧
    r.sound.toNat % 16 ≤ 11 ∧ r.sound.toNat / 16 ≤ 11

/-! ### The line codes as instructions (log 3) -/

/-- The four sentinels as instructions: the flag each sets, and the CLV marker's type (44 R213, R217, R219; log 3). -/
def Obligations.SentinelLineCodes : Prop :=
  ∀ s : State, s.status.fault = false →
    exec .leadin s = .next { s with vr := { s.vr with flags := s.vr.flags ||| 1#13 } } ∧
    exec .leadout s = .next { s with vr := { s.vr with flags := s.vr.flags ||| 2#13 } } ∧
    (Spec.inLead s.vr → exec .stop s = .next s ∧ exec .clvmark s = .next s) ∧
    (¬Spec.inLead s.vr →
      exec .stop s = .next { s with vr := { s.vr with flags := s.vr.flags ||| 4#13 } } ∧
      exec .clvmark s =
        .next { s with vr := { s.vr with discType := if s.vr.picNo = 0xFFFFFFFF#32 then 2#2 else 1#2 } })

/-- The four numeric line codes as instructions (44 R215, R216, R218, R220; log 3). -/
def Obligations.NumericLineCodes : Prop :=
  ∀ s : State, s.status.fault = false →
    ∀ (s19 c19 : BitVec 1) (d4 ct : BitVec 3) (d3 d2 d1 d0 hr mt mu cu x1 x3 x4 x5 : BitVec 4),
    (Spec.inLead s.vr →
      exec (.picno s19 d4 d3 d2 d1 d0) s = .next s ∧ exec (.timecode hr mt mu) s = .next s ∧
      exec (.chapter c19 ct cu) s = .next s ∧ exec (.clvsec x1 x3 x4 x5) s = .next s) ∧
    (¬Spec.inLead s.vr →
      exec (.picno s19 d4 d3 d2 d1 d0) s =
        (if d3.toNat ≤ 9 ∧ d2.toNat ≤ 9 ∧ d1.toNat ≤ 9 ∧ d0.toNat ≤ 9 then
          .next { s with
            vr := { s.vr with
              discType := 1#2
              picNo := BitVec.ofNat 32
                (10000 * d4.toNat + 1000 * d3.toNat + 100 * d2.toNat + 10 * d1.toNat + d0.toNat) } }
        else .next s) ∧
      exec (.timecode hr mt mu) s =
        (if s.vr.picNo = 0xFFFFFFFF#32 ∧ hr.toNat ≤ 9 ∧ mt.toNat ≤ 5 ∧ mu.toNat ≤ 9 then
          .next { s with
            vr := { s.vr with
              discType := 2#2
              clvHr := BitVec.ofNat 32 hr.toNat
              clvMin := BitVec.ofNat 32 (10 * mt.toNat + mu.toNat) } }
        else .next s) ∧
      exec (.chapter c19 ct cu) s =
        (if cu.toNat ≤ 9 then .next { s with vr := { s.vr with chNo := BitVec.ofNat 32 (10 * ct.toNat + cu.toNat) } }
        else .next s) ∧
      exec (.clvsec x1 x3 x4 x5) s =
        (if 10 ≤ x1.toNat ∧ x3.toNat ≤ 9 ∧ x4.toNat ≤ 9 ∧ x5.toNat ≤ 9 then
          .next { s with
            vr := { s.vr with
              clvSec := BitVec.ofNat 32 (10 * (x1.toNat - 10) + x3.toNat)
              clvPicNo := BitVec.ofNat 32 (10 * x4.toNat + x5.toNat) } }
        else .next s))

/-- The two programme status line codes and the user code as instructions (44 R225, R227, R229; log 3). -/
def Obligations.StatusAndUserLineCodes : Prop :=
  ∀ s : State, s.status.fault = false → ∀ (x1 x3 x4 x5 : BitVec 4) (x345 : BitVec 12),
    (∃ fl sd, exec (.statusCxOn x3 x4 x5) s = .next { s with vr := { s.vr with flags := fl, sound := sd } } ∧
      exec (.statusCxOff x3 x4 x5) s =
        .next { s with vr := { s.vr with flags := fl &&& 0x1FF7#13, sound := sd } } ∧
      fl.getLsbD 3 = true ∧ fl.toNat % 8 = s.vr.flags.toNat % 8 ∧
      fl.toNat / 16 =
        (let bit := fun (x : BitVec 4) (k : Nat) => x.toNat / 2 ^ k % 2
        let a := Spec.aud.getD (8 * bit x4 3 + 4 * bit x3 0 + 2 * bit x4 2 + bit x4 1) (0, 0, 0)
        let ok := (bit x5 3 + bit x4 3 + bit x4 2 + bit x4 0) % 2 = 0 ∧
          (bit x5 2 + bit x4 3 + bit x4 1 + bit x4 0) % 2 = 0 ∧ (bit x5 1 + bit x4 2 + bit x4 1 + bit x4 0) % 2 = 0
        (1 - bit x3 3) + 2 * (1 - bit x3 2) + 4 * bit x3 1 + 8 * a.1 + 16 * a.2.1 + 32 * bit x4 3
          + 64 * (if ok then 1 else 0) + 128 * bit x3 0 + 256 * bit x4 3) ∧
      sd.toNat =
        (Spec.aud.getD (8 * (x4.toNat / 8) + 4 * (x3.toNat % 2) + x4.toNat / 2 % 4) (0, 0, 0)).2.2
          + 16 * Spec.aud2.getD (x4.toNat % 8) 0) ∧
    (¬Spec.inLead s.vr → exec (.usercode x1 x345) s = .next s) ∧
    (Spec.inLead s.vr →
      exec (.usercode x1 x345) s =
        if x1.toNat ≤ 7 then
          .next { s with vr := { s.vr with userCode := BitVec.ofNat 17 (0x10000 + 0x1000 * x1.toNat + x345.toNat) } }
        else .next s)

/-- Under fault no instruction but `SRST` changes anything (40 R111; for a line code the model's choice, log 15), and a
word that no format accepts, on any of the six lines, is to `VDEC` what the word 0 is there (30 R99). -/
def Obligations.LineCodesThatChangeNothing : Prop :=
  (∀ (i : Instr) (s : State), s.status.fault = true → i ≠ .srst → exec i s = .next s) ∧
  (∀ (s t : State) (r : VwReg) (c : LineWord), Spec.noFormat c →
    exec .vdec { s with vw := s.vw.write r (c.setWidth 32) } = .next t →
    exec .vdec { s with vw := s.vw.write r 0#32 } = .next { t with vw := s.vw.write r 0#32 })

/-- `exec` of a line code on the default record, or, of a user code, on a lead-in record, leaves what `VDEC` leaves when
that word stands alone on a line where `VDEC` looks for its format (44 R211; log 3); so the step that `withFetchWord`
prepares for a line code is, on the default record, `exec` of that line code. -/
def Obligations.LineCodeAgreesWithVdec : Prop :=
  (∀ (s t u : State) (i : Instr) (c : LineWord),
    s.status.fault = false → decode (.lineCode c) = .ok i →
    (s.vr = VbiRec.default → s.vw = Spec.alone i c →
      exec i s = .next t → exec .vdec s = .next u → u = t) ∧
    (s.vr = { VbiRec.default with flags := 1#13 } →
      s.vw = ⟨c, 0x88FFFF#24, 0#24, 0#24, 0#24, 0#24⟩ → (Spec.usercode c).isSome = true →
      exec i s = .next t → exec .vdec s = .next u → u = t)) ∧
  (∀ (s : State) (w : Nat) (i : Instr), s.vr = VbiRec.default → decodeTableWord 24 w = some i →
    step (s.withFetchWord 24 w) = exec i { s with vw := Spec.alone i (BitVec.ofNat 24 w) })

/-! ### `VENC` -/

/-- 45_vbi_encode.md R242, R244 to R249: the six words `VENC` writes, for every record and both values of `p`. -/
def Obligations.VencPlacesWords : Prop :=
  ∀ (s : State) (p : BitVec 1), s.status.fault = false → ∃ w, exec (.venc p) s = .next { s with vw := w } ∧
    (s.vr.flags.getLsbD 0 = true → w = ⟨0#24, 0x88FFFF#24, 0x88FFFF#24, 0#24, 0x88FFFF#24, 0x88FFFF#24⟩) ∧
    (s.vr.flags.getLsbD 0 = false → s.vr.flags.getLsbD 1 = true →
      w = ⟨0#24, 0x80EEEE#24, 0x80EEEE#24, 0#24, 0x80EEEE#24, 0x80EEEE#24⟩) ∧
    (s.vr.flags.getLsbD 0 = false → s.vr.flags.getLsbD 1 = false →
      let cav := s.vr.discType = 1#2
      let clv := s.vr.discType = 2#2
      let stop := cav ∧ s.vr.flags.getLsbD 2 = true
      let pic : LineWord :=
        if cav ∧ Spec.inRange s.vr.picNo 79999 then Spec.picnoWord s.vr.picNo.toNat (decide (stop ∧ p = 0#1)) else 0#24
      let ch : LineWord := if Spec.inRange s.vr.chNo 79 then Spec.chapterWord s.vr.chNo.toNat else 0#24
      let clock : LineWord :=
        if Spec.inRange s.vr.clvHr 9 ∧ Spec.inRange s.vr.clvMin 59 then
          Spec.timecodeWord s.vr.clvHr.toNat s.vr.clvMin.toNat
        else 0#24
      let sec : LineWord :=
        if clv ∧ Spec.inRange s.vr.clvSec 59 ∧ Spec.inRange s.vr.clvPicNo 99 then
          Spec.clvsecWord s.vr.clvSec.toNat s.vr.clvPicNo.toNat
        else 0#24
      w.w116 = sec ∧
      w.w117 = (if clv then clock else pic) ∧
      w.w118 = w.w117 ∧
      w.w216 = (if clv then 0x87FFFF#24 else if stop then 0x82CFFF#24 else 0#24) ∧
      w.w217 = (if stop then 0x82CFFF#24 else if clv then 0#24 else ch) ∧
      w.w218 = ch)

/-- 45 R250: the status fields, the sound modes and the user code are not read, and no status or user code word is
ever emitted. -/
def Obligations.VencIgnoresStatusAndUserCode : Prop :=
  ∀ (s u : State) (p : BitVec 1) (t : State), u.status.fault = s.status.fault →
    u.vw = s.vw → u.vr.flags.extractLsb' 0 3 = s.vr.flags.extractLsb' 0 3 →
    (u.vr.discType, u.vr.picNo, u.vr.chNo, u.vr.clvHr, u.vr.clvMin, u.vr.clvSec, u.vr.clvPicNo) =
      (s.vr.discType, s.vr.picNo, s.vr.chNo, s.vr.clvHr, s.vr.clvMin, s.vr.clvSec, s.vr.clvPicNo) →
    exec (.venc p) s = .next t →
    exec (.venc p) u = .next { u with vw := t.vw } ∧
    (s.status.fault = false →
      ∀ c ∈ [t.vw.w116, t.vw.w117, t.vw.w118, t.vw.w216, t.vw.w217, t.vw.w218],
        c &&& 0xFFF000#24 ≠ 0x8DC000#24 ∧ c &&& 0xFFF000#24 ≠ 0x8BA000#24 ∧ c &&& 0xF0F000#24 ≠ 0x80D000#24)

/-- 45 R253: `VENC` followed by `VDEC` gives back every record of `VbiEncodable`, bit for bit, for both values of
`p`. -/
def Obligations.EncodeThenDecodeRoundTrip : Prop :=
  ∀ (s : State) (p : BitVec 1), s.status.fault = false → VbiEncodable s.vr →
    ∃ w : VbiWords, exec (.venc p) s = .next { s with vw := w } ∧
      exec .vdec { s with vw := w } = .next { s with vw := w }

/-! ### The host port -/

/-- 10 R27, R28: a write of a writable register keeps its low bits, is seen by the next read, and changes nothing else;
and, row by row of the register map, it stores them in the register that the map names. -/
def Obligations.RegisterReadAfterWrite : Prop :=
  (∀ (s : State) (v : Word) (rest : List HostEvent), ∀ e ∈ Spec.writtenAt { s with host := rest } v,
    s.host = .writeReg e.1 v :: rest → step s = .next e.2) ∧
  ∀ (s : State) (v : Word) (rest : List HostEvent), ∀ e ∈ Spec.rwRegisters, s.host = .writeReg e.1 v :: rest →
    ∃ t, step s = .next t ∧ t.readReg e.1 = BitVec.ofNat 32 (v.toNat % 2 ^ e.2) ∧
      (∀ j, j ≠ e.1 → t.readReg j = s.readReg j) ∧ (∀ sp k, t.readBuf sp k = s.readBuf sp k) ∧
      t.prev = s.prev ∧ t.curFrame = s.curFrame ∧ t.host = rest ∧ t.portData = s.portData

/-- 20 R70, R73, 10 R27: a write to a read-only or reserved index is discarded; `CMD` and every reserved index read
0. -/
def Obligations.OtherRegisterIndices : Prop :=
  ∀ (s : State) (k : Nat), k ∉ Spec.rwRegisters.map Prod.fst →
    (∀ v rest, s.host = .writeReg k v :: rest → k ≠ 0 → step s = .next { s with host := rest }) ∧
    (k ∉ Spec.roRegisters → s.readReg k = 0#32)

/-- 10 R23, R24, R28: the layout of `STATUS`, on the value the host reads, and what the host reads at every other row of
the register map. -/
def Obligations.StatusRegisterLayout : Prop :=
  ∀ s : State,
    (s.readReg 1).toNat =
      s.status.configured.toNat + 2 * s.status.fault.toNat + 4 * s.prev.isSome.toNat + 8 * s.status.frame3D.toNat
        + 16 * s.status.frameValid.toNat + 256 * s.status.err.toNat ∧
    ∀ e ∈ Spec.readsAt s, s.readReg e.1 = e.2

/-- 20 R60, R61, R65, R73: an element of `F1` or `F2`, the one that `DECF` takes as its first or second field's, reads
back as written and nothing else changes; writes beyond a
buffer and to `RGB` are discarded; reads beyond give 0; a host read changes only what the host has read. -/
def Obligations.BufferReadAfterWrite : Prop :=
  ∀ (s : State) (k : Nat) (v : Sample) (rest : List HostEvent),
    (∀ sp, sp ≠ .rgb → k < 239593 → s.host = .writeBuf sp k v :: rest →
      ∃ t, step s = .next t ∧ t.readBuf sp k = v ∧
        (∀ sp' j, sp' ≠ sp ∨ j ≠ k → t.readBuf sp' j = s.readBuf sp' j) ∧
        { t with f1 := s.f1, f2 := s.f2 } = { s with host := rest }) ∧
    (∀ sp, sp = .rgb ∨ 239593 ≤ k → s.host = .writeBuf sp k v :: rest → step s = .next { s with host := rest }) ∧
    (k < 239593 → s.readBuf .f1 k = s.fieldElem false k ∧ s.readBuf .f2 k = s.fieldElem true k) ∧
    (239593 ≤ k → s.readBuf .f1 k = 0#16 ∧ s.readBuf .f2 k = 0#16) ∧ (1437558 ≤ k → s.readBuf .rgb k = 0#16) ∧
    (s.host = .readReg k :: rest → step s = .next { s with host := rest, portData := s.readReg k }) ∧
    (∀ sp, s.host = .readBuf sp k :: rest →
      step s = .next { s with host := rest, portData := BitVec.ofNat 32 (s.readBuf sp k).toNat })

/-! ### Whole-machine rules -/

/-- 10 R31, R35: only `CFG`, `SRST` and the reset input change the active configuration. -/
def Obligations.ActiveConfigurationWriters : Prop :=
  ∀ s t : State, step s = .next t → t.actVp ≠ s.actVp ∨ t.actCc ≠ s.actCc →
    ∃ rest, s.host = .resetInput :: rest ∨ s.host = .writeReg 0 0x00000001#32 :: rest ∨
      s.host = .writeReg 0 0x0000000F#32 :: rest

/-- 70 R298: the frame, its descriptor and `FRAME_VALID` stay as they are until a `DECF`, a `CFG`, an `SRST` or the
reset input; so does `PREV`. -/
def Obligations.FrameStaysUntilReplaced : Prop :=
  ∀ s t : State, step s = .next t →
    (∀ rest, s.host ≠ .resetInput :: rest ∧ s.host ≠ .writeReg 0 0x00000001#32 :: rest ∧
      s.host ≠ .writeReg 0 0x00000002#32 :: rest ∧ s.host ≠ .writeReg 0 0x0000000F#32 :: rest) →
    (∀ k, t.readBuf .rgb k = s.readBuf .rgb k) ∧ t.frWidth = s.frWidth ∧ t.frHeight = s.frHeight ∧
      t.status.frameValid = s.status.frameValid ∧ t.prev = s.prev

/-- The state after reset satisfies the invariant. -/
def Obligations.ResetSatisfiesInvariant : Prop := State.reset.inv = true

/-- Every step keeps the invariant: canonical buffers, `ERR` and `ERRINFO` 0 without a fault, an active configuration
that passes the checks of `CFG`, a `PREV` of the active geometry with legal phase IDs, a valid frame of the right
dimensions (10 R23, R24, R49; 40 R116, R117; 41 R152; 43 R199; 20 R74). -/
def Obligations.StepKeepsInvariant : Prop :=
  ∀ s t : State, s.inv = true → step s = .next t → t.inv = true
end

