-- ==== Sys2Proof/Laws/Memory.lean ====
section
/-! SUPPORT. The laws of the buffers: read after write, and the one canonical form that every operation keeps. -/

namespace Sys2Proof.Machine

@[simp] theorem Memory.read_nil (a : Nat) : Memory.read [] a = none := rfl

theorem Memory.read_cons (b : Nat) (w : Sample) (m : Memory) (a : Nat) :
    Memory.read ((b, w) :: m) a = if a = b then some w else Memory.read m a := rfl

/-- A read of the element just written gives the value written. -/
@[simp] theorem Memory.read_write_same (m : Memory) (a : Nat) (v : Sample) :
    Memory.read (Memory.write m a v) a = some v := by
  induction m with
  | nil => simp [Memory.write, Memory.read]
  | cons c m ih =>
    obtain ⟨b, w⟩ := c
    unfold Memory.write
    split
    · simp [Memory.read_cons]
    · split
      · simp [Memory.read_cons]
      · rename_i h1 h2
        simp [Memory.read_cons, h2, ih]

/-- A write leaves every other element alone. -/
theorem Memory.read_write_other (m : Memory) {a b : Nat} (v : Sample) (h : b ≠ a) :
    Memory.read (Memory.write m a v) b = Memory.read m b := by
  induction m with
  | nil => simp [Memory.write, Memory.read, h]
  | cons c m ih =>
    obtain ⟨d, w⟩ := c
    unfold Memory.write
    split
    · simp [Memory.read_cons, h]
    · split
      · rename_i h1 h2
        subst h2
        simp [Memory.read_cons, h]
      · simp [Memory.read_cons, ih]

theorem Memory.wfFrom_cons {cap lo a : Nat} {v : Sample} {m : Memory} :
    Memory.wfFrom cap lo ((a, v) :: m) = true ↔ lo ≤ a ∧ a < cap ∧ Memory.wfFrom cap (a + 1) m = true := by
  simp [Memory.wfFrom, and_assoc]

/-- A write inside the buffer keeps the rising form from any lower bound. -/
theorem Memory.wfFrom_write {cap lo a : Nat} (m : Memory) (v : Sample) (ha : a < cap) (hlo : lo ≤ a)
    (h : Memory.wfFrom cap lo m = true) : Memory.wfFrom cap lo (Memory.write m a v) = true := by
  induction m generalizing lo with
  | nil => simp [Memory.write, Memory.wfFrom, ha, hlo]
  | cons c m ih =>
    obtain ⟨b, w⟩ := c
    obtain ⟨h1, h2, h3⟩ := Memory.wfFrom_cons.mp h
    unfold Memory.write
    split
    · rename_i hab
      exact Memory.wfFrom_cons.mpr ⟨hlo, ha, Memory.wfFrom_cons.mpr ⟨hab, h2, h3⟩⟩
    · split
      · rename_i hab
        subst hab
        exact Memory.wfFrom_cons.mpr ⟨hlo, ha, h3⟩
      · exact Memory.wfFrom_cons.mpr ⟨h1, h2, ih (by omega) h3⟩

/-- A write inside the buffer keeps the canonical form. -/
theorem Memory.wf_write {cap a : Nat} (m : Memory) (v : Sample) (ha : a < cap) (h : Memory.wf cap m = true) :
    Memory.wf cap (Memory.write m a v) = true := Memory.wfFrom_write m v ha (Nat.zero_le a) h

/-- Below its lower bound a buffer in rising form lists nothing. -/
theorem Memory.read_below {cap lo a : Nat} (m : Memory) (h : Memory.wfFrom cap lo m = true) (ha : a < lo) :
    Memory.read m a = none := by
  induction m generalizing lo with
  | nil => rfl
  | cons c m ih =>
    obtain ⟨b, w⟩ := c
    obtain ⟨h1, _, h3⟩ := Memory.wfFrom_cons.mp h
    rw [Memory.read_cons, if_neg (by omega)]
    exact ih h3 (by omega)

/-- Buffers in canonical form that read alike are equal data. -/
theorem Memory.wfFrom_ext {cap lo : Nat} (m n : Memory) (hm : Memory.wfFrom cap lo m = true)
    (hn : Memory.wfFrom cap lo n = true) (h : ∀ a, Memory.read m a = Memory.read n a) : m = n := by
  induction m generalizing lo n with
  | nil =>
    cases n with
    | nil => rfl
    | cons c n => obtain ⟨b, w⟩ := c; simpa [Memory.read_cons] using h b
  | cons c m ih =>
    obtain ⟨b, w⟩ := c
    cases n with
    | nil => simpa [Memory.read_cons] using h b
    | cons d n =>
      obtain ⟨e, x⟩ := d
      obtain ⟨_, _, hm3⟩ := Memory.wfFrom_cons.mp hm
      obtain ⟨_, _, hn3⟩ := Memory.wfFrom_cons.mp hn
      have hbe : b = e := by
        rcases Nat.lt_trichotomy b e with hlt | heq | hgt
        · have := h b
          simp only [Memory.read_cons, if_true, if_neg (show b ≠ e by omega)] at this
          rw [Memory.read_below n hn3 (by omega)] at this
          cases this
        · exact heq
        · have := h e
          simp only [Memory.read_cons, if_true, if_neg (show e ≠ b by omega)] at this
          rw [Memory.read_below m hm3 (by omega)] at this
          cases this
      subst hbe
      have hwx : w = x := by simpa [Memory.read_cons] using h b
      subst hwx
      have hrest : m = n := ih n hm3 hn3 fun a => by
        by_cases hab : a = b
        · subst hab
          rw [Memory.read_below m hm3 (by omega), Memory.read_below n hn3 (by omega)]
        · simpa [Memory.read_cons, hab] using h a
      rw [hrest]

/-- Buffers in canonical form that read alike are equal data. -/
theorem Memory.wf_ext {cap : Nat} (m n : Memory) (hm : Memory.wf cap m = true) (hn : Memory.wf cap n = true)
    (h : ∀ a, Memory.read m a = Memory.read n a) : m = n := Memory.wfFrom_ext m n hm hn h

theorem Memory.wfFrom_mapRange {cap : Nat} (lo n : Nat) (f : Nat → Sample) (h : lo + n ≤ cap) :
    Memory.wfFrom cap lo ((List.range' lo n).map fun k => (k, f k)) = true := by
  induction n generalizing lo with
  | zero => rfl
  | succ n ih =>
    rw [List.range'_succ, List.map_cons]
    exact Memory.wfFrom_cons.mpr ⟨le_refl lo, by omega, ih (lo + 1) (by omega)⟩

/-- A tabulated buffer that fits has the canonical form. -/
theorem Memory.wf_tabulate {cap n : Nat} (f : Nat → Sample) (h : n ≤ cap) :
    Memory.wf cap (Memory.tabulate n f) = true := by
  unfold Memory.wf Memory.tabulate
  rw [List.range_eq_range']
  exact Memory.wfFrom_mapRange 0 n f (by omega)

theorem Memory.read_mapRange (lo n : Nat) (f : Nat → Sample) (a : Nat) :
    Memory.read ((List.range' lo n).map fun k => (k, f k)) a = if lo ≤ a ∧ a < lo + n then some (f a) else none := by
  induction n generalizing lo with
  | zero => simp
  | succ n ih =>
    rw [List.range'_succ, List.map_cons, Memory.read_cons, ih]
    by_cases h : a = lo
    · subst h; simp
    · rw [if_neg h]
      congr 1
      simp only [eq_iff_iff]
      omega

/-- A tabulated buffer reads as its function below its length and lists nothing beyond. -/
theorem Memory.read_tabulate (n : Nat) (f : Nat → Sample) (a : Nat) :
    Memory.read (Memory.tabulate n f) a = if a < n then some (f a) else none := by
  unfold Memory.tabulate
  rw [List.range_eq_range', Memory.read_mapRange]
  simp

@[simp] theorem Memory.length_tabulate (n : Nat) (f : Nat → Sample) : (Memory.tabulate n f).length = n := by
  simp [Memory.tabulate]

end Sys2Proof.Machine
end

