-- ==== Sys2Proof/Laws/State.lean ====
section
/-! SUPPORT. One lemma per field per update of State, so that no proof unfolds a record update. -/

namespace Sys2Proof.Machine

/-! ### `State.raise` -/

@[simp] theorem State.raise_status (s : State) (e : ErrCode) (info : Word) : (s.raise e info).status = { s.status with fault := true, err := e.code } := rfl
@[simp] theorem State.raise_errInfo (s : State) (e : ErrCode) (info : Word) : (s.raise e info).errInfo = info := rfl
@[simp] theorem State.raise_vp (s : State) (e : ErrCode) (info : Word) : (s.raise e info).vp = s.vp := rfl
@[simp] theorem State.raise_cc (s : State) (e : ErrCode) (info : Word) : (s.raise e info).cc = s.cc := rfl
@[simp] theorem State.raise_actVp (s : State) (e : ErrCode) (info : Word) : (s.raise e info).actVp = s.actVp := rfl
@[simp] theorem State.raise_actCc (s : State) (e : ErrCode) (info : Word) : (s.raise e info).actCc = s.actCc := rfl
@[simp] theorem State.raise_f1Len (s : State) (e : ErrCode) (info : Word) : (s.raise e info).f1Len = s.f1Len := rfl
@[simp] theorem State.raise_f1Phase (s : State) (e : ErrCode) (info : Word) : (s.raise e info).f1Phase = s.f1Phase := rfl
@[simp] theorem State.raise_f2Len (s : State) (e : ErrCode) (info : Word) : (s.raise e info).f2Len = s.f2Len := rfl
@[simp] theorem State.raise_f2Phase (s : State) (e : ErrCode) (info : Word) : (s.raise e info).f2Phase = s.f2Phase := rfl
@[simp] theorem State.raise_frWidth (s : State) (e : ErrCode) (info : Word) : (s.raise e info).frWidth = s.frWidth := rfl
@[simp] theorem State.raise_frHeight (s : State) (e : ErrCode) (info : Word) : (s.raise e info).frHeight = s.frHeight := rfl
@[simp] theorem State.raise_vw (s : State) (e : ErrCode) (info : Word) : (s.raise e info).vw = s.vw := rfl
@[simp] theorem State.raise_vr (s : State) (e : ErrCode) (info : Word) : (s.raise e info).vr = s.vr := rfl
@[simp] theorem State.raise_f1 (s : State) (e : ErrCode) (info : Word) : (s.raise e info).f1 = s.f1 := rfl
@[simp] theorem State.raise_f2 (s : State) (e : ErrCode) (info : Word) : (s.raise e info).f2 = s.f2 := rfl
@[simp] theorem State.raise_rgb (s : State) (e : ErrCode) (info : Word) : (s.raise e info).rgb = s.rgb := rfl
@[simp] theorem State.raise_prev (s : State) (e : ErrCode) (info : Word) : (s.raise e info).prev = s.prev := rfl
@[simp] theorem State.raise_curEpoch (s : State) (e : ErrCode) (info : Word) : (s.raise e info).curEpoch = s.curEpoch := rfl
@[simp] theorem State.raise_powerEpoch (s : State) (e : ErrCode) (info : Word) : (s.raise e info).powerEpoch = s.powerEpoch := rfl
@[simp] theorem State.raise_rgbEpoch (s : State) (e : ErrCode) (info : Word) : (s.raise e info).rgbEpoch = s.rgbEpoch := rfl
@[simp] theorem State.raise_host (s : State) (e : ErrCode) (info : Word) : (s.raise e info).host = s.host := rfl
@[simp] theorem State.raise_portData (s : State) (e : ErrCode) (info : Word) : (s.raise e info).portData = s.portData := rfl

/-! ### `State.presentCommand` -/

@[simp] theorem State.presentCommand_status (s : State) (c : Word) : (s.presentCommand c).status = s.status := rfl
@[simp] theorem State.presentCommand_errInfo (s : State) (c : Word) : (s.presentCommand c).errInfo = s.errInfo := rfl
@[simp] theorem State.presentCommand_vp (s : State) (c : Word) : (s.presentCommand c).vp = s.vp := rfl
@[simp] theorem State.presentCommand_cc (s : State) (c : Word) : (s.presentCommand c).cc = s.cc := rfl
@[simp] theorem State.presentCommand_actVp (s : State) (c : Word) : (s.presentCommand c).actVp = s.actVp := rfl
@[simp] theorem State.presentCommand_actCc (s : State) (c : Word) : (s.presentCommand c).actCc = s.actCc := rfl
@[simp] theorem State.presentCommand_f1Len (s : State) (c : Word) : (s.presentCommand c).f1Len = s.f1Len := rfl
@[simp] theorem State.presentCommand_f1Phase (s : State) (c : Word) : (s.presentCommand c).f1Phase = s.f1Phase := rfl
@[simp] theorem State.presentCommand_f2Len (s : State) (c : Word) : (s.presentCommand c).f2Len = s.f2Len := rfl
@[simp] theorem State.presentCommand_f2Phase (s : State) (c : Word) : (s.presentCommand c).f2Phase = s.f2Phase := rfl
@[simp] theorem State.presentCommand_frWidth (s : State) (c : Word) : (s.presentCommand c).frWidth = s.frWidth := rfl
@[simp] theorem State.presentCommand_frHeight (s : State) (c : Word) : (s.presentCommand c).frHeight = s.frHeight := rfl
@[simp] theorem State.presentCommand_vw (s : State) (c : Word) : (s.presentCommand c).vw = s.vw := rfl
@[simp] theorem State.presentCommand_vr (s : State) (c : Word) : (s.presentCommand c).vr = s.vr := rfl
@[simp] theorem State.presentCommand_f1 (s : State) (c : Word) : (s.presentCommand c).f1 = s.f1 := rfl
@[simp] theorem State.presentCommand_f2 (s : State) (c : Word) : (s.presentCommand c).f2 = s.f2 := rfl
@[simp] theorem State.presentCommand_rgb (s : State) (c : Word) : (s.presentCommand c).rgb = s.rgb := rfl
@[simp] theorem State.presentCommand_prev (s : State) (c : Word) : (s.presentCommand c).prev = s.prev := rfl
@[simp] theorem State.presentCommand_curEpoch (s : State) (c : Word) : (s.presentCommand c).curEpoch = s.curEpoch := rfl
@[simp] theorem State.presentCommand_powerEpoch (s : State) (c : Word) : (s.presentCommand c).powerEpoch = s.powerEpoch := rfl
@[simp] theorem State.presentCommand_rgbEpoch (s : State) (c : Word) : (s.presentCommand c).rgbEpoch = s.rgbEpoch := rfl
@[simp] theorem State.presentCommand_host (s : State) (c : Word) : (s.presentCommand c).host = .writeReg 0 c :: s.host := rfl
@[simp] theorem State.presentCommand_portData (s : State) (c : Word) : (s.presentCommand c).portData = s.portData := rfl

/-! ### `State.beginDecf` -/

@[simp] theorem State.beginDecf_status (s : State) : s.beginDecf.status = { s.status with frameValid := false } := rfl
@[simp] theorem State.beginDecf_errInfo (s : State) : s.beginDecf.errInfo = s.errInfo := rfl
@[simp] theorem State.beginDecf_vp (s : State) : s.beginDecf.vp = s.vp := rfl
@[simp] theorem State.beginDecf_cc (s : State) : s.beginDecf.cc = s.cc := rfl
@[simp] theorem State.beginDecf_actVp (s : State) : s.beginDecf.actVp = s.actVp := rfl
@[simp] theorem State.beginDecf_actCc (s : State) : s.beginDecf.actCc = s.actCc := rfl
@[simp] theorem State.beginDecf_f1Len (s : State) : s.beginDecf.f1Len = s.f1Len := rfl
@[simp] theorem State.beginDecf_f1Phase (s : State) : s.beginDecf.f1Phase = s.f1Phase := rfl
@[simp] theorem State.beginDecf_f2Len (s : State) : s.beginDecf.f2Len = s.f2Len := rfl
@[simp] theorem State.beginDecf_f2Phase (s : State) : s.beginDecf.f2Phase = s.f2Phase := rfl
@[simp] theorem State.beginDecf_frWidth (s : State) : s.beginDecf.frWidth = s.frWidth := rfl
@[simp] theorem State.beginDecf_frHeight (s : State) : s.beginDecf.frHeight = s.frHeight := rfl
@[simp] theorem State.beginDecf_vw (s : State) : s.beginDecf.vw = s.vw := rfl
@[simp] theorem State.beginDecf_vr (s : State) : s.beginDecf.vr = s.vr := rfl
@[simp] theorem State.beginDecf_f1 (s : State) : s.beginDecf.f1 = s.f1 := rfl
@[simp] theorem State.beginDecf_f2 (s : State) : s.beginDecf.f2 = s.f2 := rfl
@[simp] theorem State.beginDecf_rgb (s : State) : s.beginDecf.rgb = s.rgb := rfl
@[simp] theorem State.beginDecf_prev (s : State) : s.beginDecf.prev = s.prev := rfl
@[simp] theorem State.beginDecf_curEpoch (s : State) : s.beginDecf.curEpoch = s.curEpoch := rfl
@[simp] theorem State.beginDecf_powerEpoch (s : State) : s.beginDecf.powerEpoch = s.powerEpoch := rfl
@[simp] theorem State.beginDecf_rgbEpoch (s : State) : s.beginDecf.rgbEpoch = s.rgbEpoch + 1 := rfl
@[simp] theorem State.beginDecf_host (s : State) : s.beginDecf.host = s.host := rfl
@[simp] theorem State.beginDecf_portData (s : State) : s.beginDecf.portData = s.portData := rfl

/-! ### `State.latchConfig` -/

@[simp] theorem State.latchConfig_status (s : State) : s.latchConfig.status = { s.status with configured := true, frameValid := false } := rfl
@[simp] theorem State.latchConfig_errInfo (s : State) : s.latchConfig.errInfo = s.errInfo := rfl
@[simp] theorem State.latchConfig_vp (s : State) : s.latchConfig.vp = s.vp := rfl
@[simp] theorem State.latchConfig_cc (s : State) : s.latchConfig.cc = s.cc := rfl
@[simp] theorem State.latchConfig_actVp (s : State) : s.latchConfig.actVp = s.vp := rfl
@[simp] theorem State.latchConfig_actCc (s : State) : s.latchConfig.actCc = s.cc := rfl
@[simp] theorem State.latchConfig_f1Len (s : State) : s.latchConfig.f1Len = s.f1Len := rfl
@[simp] theorem State.latchConfig_f1Phase (s : State) : s.latchConfig.f1Phase = s.f1Phase := rfl
@[simp] theorem State.latchConfig_f2Len (s : State) : s.latchConfig.f2Len = s.f2Len := rfl
@[simp] theorem State.latchConfig_f2Phase (s : State) : s.latchConfig.f2Phase = s.f2Phase := rfl
@[simp] theorem State.latchConfig_frWidth (s : State) : s.latchConfig.frWidth = s.frWidth := rfl
@[simp] theorem State.latchConfig_frHeight (s : State) : s.latchConfig.frHeight = s.frHeight := rfl
@[simp] theorem State.latchConfig_vw (s : State) : s.latchConfig.vw = s.vw := rfl
@[simp] theorem State.latchConfig_vr (s : State) : s.latchConfig.vr = s.vr := rfl
@[simp] theorem State.latchConfig_f1 (s : State) : s.latchConfig.f1 = s.f1 := rfl
@[simp] theorem State.latchConfig_f2 (s : State) : s.latchConfig.f2 = s.f2 := rfl
@[simp] theorem State.latchConfig_rgb (s : State) : s.latchConfig.rgb = s.rgb := rfl
@[simp] theorem State.latchConfig_prev (s : State) : s.latchConfig.prev = keepPrev s.vp.geometry s.prev := rfl
@[simp] theorem State.latchConfig_curEpoch (s : State) : s.latchConfig.curEpoch = s.curEpoch := rfl
@[simp] theorem State.latchConfig_powerEpoch (s : State) : s.latchConfig.powerEpoch = s.powerEpoch := rfl
@[simp] theorem State.latchConfig_rgbEpoch (s : State) : s.latchConfig.rgbEpoch = s.rgbEpoch + 1 := rfl
@[simp] theorem State.latchConfig_host (s : State) : s.latchConfig.host = s.host := rfl
@[simp] theorem State.latchConfig_portData (s : State) : s.latchConfig.portData = s.portData := rfl

/-! ### `State.completeDecf` -/

@[simp] theorem State.completeDecf_status (s : State) : s.completeDecf.status = { s.status with frame3D := s.reference.isSome, frameValid := true } := rfl
@[simp] theorem State.completeDecf_errInfo (s : State) : s.completeDecf.errInfo = s.errInfo := rfl
@[simp] theorem State.completeDecf_vp (s : State) : s.completeDecf.vp = s.vp := rfl
@[simp] theorem State.completeDecf_cc (s : State) : s.completeDecf.cc = s.cc := rfl
@[simp] theorem State.completeDecf_actVp (s : State) : s.completeDecf.actVp = s.actVp := rfl
@[simp] theorem State.completeDecf_actCc (s : State) : s.completeDecf.actCc = s.actCc := rfl
@[simp] theorem State.completeDecf_f1Len (s : State) : s.completeDecf.f1Len = s.f1Len := rfl
@[simp] theorem State.completeDecf_f1Phase (s : State) : s.completeDecf.f1Phase = s.f1Phase := rfl
@[simp] theorem State.completeDecf_f2Len (s : State) : s.completeDecf.f2Len = s.f2Len := rfl
@[simp] theorem State.completeDecf_f2Phase (s : State) : s.completeDecf.f2Phase = s.f2Phase := rfl
@[simp] theorem State.completeDecf_frWidth (s : State) : s.completeDecf.frWidth = s.actVp.fieldWidth := rfl
@[simp] theorem State.completeDecf_frHeight (s : State) : s.completeDecf.frHeight = BitVec.ofNat 16 s.params.frameHeight := rfl
@[simp] theorem State.completeDecf_vw (s : State) : s.completeDecf.vw = s.vw := rfl
@[simp] theorem State.completeDecf_vr (s : State) : s.completeDecf.vr = s.vr := rfl
@[simp] theorem State.completeDecf_f1 (s : State) : s.completeDecf.f1 = s.f1 := rfl
@[simp] theorem State.completeDecf_f2 (s : State) : s.completeDecf.f2 = s.f2 := rfl
@[simp] theorem State.completeDecf_rgb (s : State) : s.completeDecf.rgb = frameMemory s.params s.reference.isSome s.builtFrame := rfl
@[simp] theorem State.completeDecf_prev (s : State) : s.completeDecf.prev = some s.builtFrame := rfl
@[simp] theorem State.completeDecf_curEpoch (s : State) : s.completeDecf.curEpoch = s.curEpoch + 1 := rfl
@[simp] theorem State.completeDecf_powerEpoch (s : State) : s.completeDecf.powerEpoch = s.powerEpoch := rfl
@[simp] theorem State.completeDecf_rgbEpoch (s : State) : s.completeDecf.rgbEpoch = s.rgbEpoch := rfl
@[simp] theorem State.completeDecf_host (s : State) : s.completeDecf.host = s.host := rfl
@[simp] theorem State.completeDecf_portData (s : State) : s.completeDecf.portData = s.portData := rfl

/-! ### `State.powerReset` -/

@[simp] theorem State.powerReset_status (s : State) : s.powerReset.status = State.reset.status := rfl
@[simp] theorem State.powerReset_errInfo (s : State) : s.powerReset.errInfo = State.reset.errInfo := rfl
@[simp] theorem State.powerReset_vp (s : State) : s.powerReset.vp = State.reset.vp := rfl
@[simp] theorem State.powerReset_cc (s : State) : s.powerReset.cc = State.reset.cc := rfl
@[simp] theorem State.powerReset_actVp (s : State) : s.powerReset.actVp = State.reset.actVp := rfl
@[simp] theorem State.powerReset_actCc (s : State) : s.powerReset.actCc = State.reset.actCc := rfl
@[simp] theorem State.powerReset_f1Len (s : State) : s.powerReset.f1Len = State.reset.f1Len := rfl
@[simp] theorem State.powerReset_f1Phase (s : State) : s.powerReset.f1Phase = State.reset.f1Phase := rfl
@[simp] theorem State.powerReset_f2Len (s : State) : s.powerReset.f2Len = State.reset.f2Len := rfl
@[simp] theorem State.powerReset_f2Phase (s : State) : s.powerReset.f2Phase = State.reset.f2Phase := rfl
@[simp] theorem State.powerReset_frWidth (s : State) : s.powerReset.frWidth = State.reset.frWidth := rfl
@[simp] theorem State.powerReset_frHeight (s : State) : s.powerReset.frHeight = State.reset.frHeight := rfl
@[simp] theorem State.powerReset_vw (s : State) : s.powerReset.vw = State.reset.vw := rfl
@[simp] theorem State.powerReset_vr (s : State) : s.powerReset.vr = State.reset.vr := rfl
@[simp] theorem State.powerReset_f1 (s : State) : s.powerReset.f1 = State.reset.f1 := rfl
@[simp] theorem State.powerReset_f2 (s : State) : s.powerReset.f2 = State.reset.f2 := rfl
@[simp] theorem State.powerReset_rgb (s : State) : s.powerReset.rgb = State.reset.rgb := rfl
@[simp] theorem State.powerReset_prev (s : State) : s.powerReset.prev = State.reset.prev := rfl
@[simp] theorem State.powerReset_curEpoch (s : State) : s.powerReset.curEpoch = s.curEpoch + 1 := rfl
@[simp] theorem State.powerReset_powerEpoch (s : State) : s.powerReset.powerEpoch = s.powerEpoch + 1 := rfl
@[simp] theorem State.powerReset_rgbEpoch (s : State) : s.powerReset.rgbEpoch = s.rgbEpoch + 1 := rfl
@[simp] theorem State.powerReset_host (s : State) : s.powerReset.host = s.host := rfl
@[simp] theorem State.powerReset_portData (s : State) : s.powerReset.portData = s.portData := rfl

/-! ### The values of `State.reset` (10 R52) -/

@[simp] theorem State.reset_status : State.reset.status = ⟨false, false, false, false, 0#8⟩ := rfl
@[simp] theorem State.reset_errInfo : State.reset.errInfo = 0#32 := rfl
@[simp] theorem State.reset_vp : State.reset.vp = VideoParams.zero := rfl
@[simp] theorem State.reset_cc : State.reset.cc = CombConfig.zero := rfl
@[simp] theorem State.reset_actVp : State.reset.actVp = VideoParams.zero := rfl
@[simp] theorem State.reset_actCc : State.reset.actCc = CombConfig.zero := rfl
@[simp] theorem State.reset_f1Len : State.reset.f1Len = 0#18 := rfl
@[simp] theorem State.reset_f1Phase : State.reset.f1Phase = 0#3 := rfl
@[simp] theorem State.reset_f2Len : State.reset.f2Len = 0#18 := rfl
@[simp] theorem State.reset_f2Phase : State.reset.f2Phase = 0#3 := rfl
@[simp] theorem State.reset_frWidth : State.reset.frWidth = 0#16 := rfl
@[simp] theorem State.reset_frHeight : State.reset.frHeight = 0#16 := rfl
@[simp] theorem State.reset_vw : State.reset.vw = VbiWords.zero := rfl
@[simp] theorem State.reset_vr : State.reset.vr = VbiRec.default := rfl
@[simp] theorem State.reset_f1 : State.reset.f1 = [] := rfl
@[simp] theorem State.reset_f2 : State.reset.f2 = [] := rfl
@[simp] theorem State.reset_rgb : State.reset.rgb = [] := rfl
@[simp] theorem State.reset_prev : State.reset.prev = none := rfl
@[simp] theorem State.reset_curEpoch : State.reset.curEpoch = 0 := rfl
@[simp] theorem State.reset_powerEpoch : State.reset.powerEpoch = 0 := rfl
@[simp] theorem State.reset_rgbEpoch : State.reset.rgbEpoch = 0 := rfl
@[simp] theorem State.reset_host : State.reset.host = [] := rfl
@[simp] theorem State.reset_portData : State.reset.portData = 0#32 := rfl

end Sys2Proof.Machine
end

