-- ==== Sys2Proof/Machine/HostScript.lean ====
section
/-! DEFINITION. The host script: its lines and pseudo-operations as lists of transactions (30_encoding.md R88, R89). -/

namespace Sys2Proof.Machine

/-- The index of a register of the map (10 R28). -/
def RegName.index (r : RegName) : Nat := ((registerMap.find? fun e => e.2 == r).map Prod.fst).getD 0

/-- `WR <reg>, <value>` (30 R88). -/
def scriptWR (r : RegName) (value : Word) : List HostEvent := [.writeReg r.index value]

/-- `RD <reg>` (30 R88). -/
def scriptRD (r : RegName) : List HostEvent := [.readReg r.index]

/-- `WRB <F1 or F2>, <index>, <value>` (30 R88). -/
def scriptWRB (space : BufSpace) (index : Nat) (value : Sample) : List HostEvent := [.writeBuf space index value]

/-- `RDB <space>, <index>` (30 R88). -/
def scriptRDB (space : BufSpace) (index : Nat) : List HostEvent := [.readBuf space index]

/-- A command line of the script, a write of its word to `CMD`: `NOP`, `CFG`, `DECF`, `VDEC`, `VENC ntsc`, `VENC pal`,
`SRST` (30 R88). A line code is no command and gives no transaction. -/
def scriptCommand (i : Instr) : List HostEvent :=
  match encode i with
  | .command c => scriptWR .cmd c
  | .lineCode _ => []

/-- `SETVP` (30 R89). -/
def scriptSETVP (v : VideoParams) : List HostEvent :=
  scriptWR (.vp .fieldWidth) (v.fieldWidth.setWidth 32) ++ scriptWR (.vp .fieldHeight) (v.fieldHeight.setWidth 32)
    ++ scriptWR (.vp .activeStart) (v.activeStart.setWidth 32) ++ scriptWR (.vp .activeEnd) (v.activeEnd.setWidth 32)
    ++ scriptWR (.vp .burstStart) (v.burstStart.setWidth 32) ++ scriptWR (.vp .burstEnd) (v.burstEnd.setWidth 32)
    ++ scriptWR (.vp .black) (v.black.setWidth 32) ++ scriptWR (.vp .white) (v.white.setWidth 32)
    ++ scriptWR (.vp .isPal) (v.isPal.setWidth 32)

/-- `SETCC` (30 R89). -/
def scriptSETCC (c : CombConfig) : List HostEvent :=
  scriptWR (.cc .chromaGain) (c.chromaGain.setWidth 32) ++ scriptWR (.cc .flags) (c.flags.setWidth 32)
    ++ scriptWR (.cc .cnrLevel) (c.cnrLevel.setWidth 32) ++ scriptWR (.cc .ynrLevel) (c.ynrLevel.setWidth 32)

/-- `LOADF` of the first field (`second = false`) or the second (30 R89). -/
def scriptLOADF (second : Bool) (phase : BitVec 3) (samples : List Sample) : List HostEvent :=
  (samples.zipIdx.flatMap fun e => scriptWRB (if second then .f2 else .f1) e.2 e.1)
    ++ scriptWR (if second then .f2Len else .f1Len) (BitVec.ofNat 32 samples.length)
    ++ scriptWR (if second then .f2Phase else .f1Phase) (phase.setWidth 32)

/-- `SETVW` (30 R89). -/
def scriptSETVW (w : VbiWords) : List HostEvent :=
  scriptWR (.vw .w116) (w.w116.setWidth 32) ++ scriptWR (.vw .w117) (w.w117.setWidth 32)
    ++ scriptWR (.vw .w118) (w.w118.setWidth 32) ++ scriptWR (.vw .w216) (w.w216.setWidth 32)
    ++ scriptWR (.vw .w217) (w.w217.setWidth 32) ++ scriptWR (.vw .w218) (w.w218.setWidth 32)

/-- The ten writes that set `VR_*` to a record. -/
def scriptSETVR (r : VbiRec) : List HostEvent :=
  scriptWR (.vr .discType) (r.discType.setWidth 32) ++ scriptWR (.vr .picNo) r.picNo ++ scriptWR (.vr .chNo) r.chNo
    ++ scriptWR (.vr .clvHr) r.clvHr ++ scriptWR (.vr .clvMin) r.clvMin ++ scriptWR (.vr .clvSec) r.clvSec
    ++ scriptWR (.vr .clvPicNo) r.clvPicNo ++ scriptWR (.vr .flags) (r.flags.setWidth 32)
    ++ scriptWR (.vr .sound) (r.sound.setWidth 32) ++ scriptWR (.vr .userCode) (r.userCode.setWidth 32)

/-- `SETVR default` (30 R89). -/
def scriptSETVRdefault : List HostEvent := scriptSETVR VbiRec.default

end Sys2Proof.Machine
end

