-- ==== Sys2Proof/Laws/Ops.lean ====
section
/-! SUPPORT. One lemma per shared operation that says once everything the operation can do, so that a proof cites it
and does not unfold the operation. -/

namespace Sys2Proof.Machine

/-! ### Arithmetic (00_scope.md R12, R13) -/

/-- Floor division by a positive divisor. -/
theorem fdiv_spec {d : Int} (a : Int) (hd : 0 < d) : fdiv a d * d ≤ a ∧ a < (fdiv a d + 1) * d :=
  ⟨Int.ediv_mul_le a hd.ne', Int.lt_ediv_add_one_mul_self a hd⟩

theorem fdiv_mono {a b d : Int} (hd : 0 < d) (h : a ≤ b) : fdiv a d ≤ fdiv b d := Int.ediv_le_ediv hd h

/-- Rounding half up, by a positive divisor. -/
theorem rdiv_spec {d : Int} (a : Int) (hd : 0 < d) :
    rdiv a d * (2 * d) ≤ 2 * a + d ∧ 2 * a + d < (rdiv a d + 1) * (2 * d) := fdiv_spec _ (by omega)

theorem rdiv_mono {a b d : Int} (hd : 0 < d) (h : a ≤ b) : rdiv a d ≤ rdiv b d := fdiv_mono (by omega) (by omega)

/-- A multiple of the divisor is not rounded. -/
theorem rdiv_mul {d : Int} (v : Int) (hd : 0 < d) : rdiv (v * d) d = v := by
  obtain ⟨h1, h2⟩ := rdiv_spec (v * d) hd
  have e1 : (rdiv (v * d) d - v) * (2 * d) ≤ d := by nlinarith
  have e2 : -d < (rdiv (v * d) d + 1 - v) * (2 * d) - 2 * d + d := by nlinarith
  by_contra hne
  rcases lt_or_gt_of_ne hne with h | h
  · nlinarith
  · nlinarith

theorem clampInt_bounds {lo hi : Int} (v : Int) (h : lo ≤ hi) : lo ≤ clampInt v lo hi ∧ clampInt v lo hi ≤ hi := by
  unfold clampInt
  split
  · exact ⟨le_refl _, h⟩
  · split <;> omega

theorem clampInt_of_mem {v lo hi : Int} (h1 : lo ≤ v) (h2 : v ≤ hi) : clampInt v lo hi = v := by
  unfold clampInt
  rw [if_neg (by omega), if_neg (by omega)]

theorem clampInt_mono {v w lo hi : Int} (h : lo ≤ hi) (hvw : v ≤ w) : clampInt v lo hi ≤ clampInt w lo hi := by
  unfold clampInt
  split <;> split <;> (try split) <;> (try split) <;> omega

/-! ### Digits and formats (30_encoding.md R91 to R98) -/

theorem isBcd_iff (n : BitVec 4) : isBcd n = true ↔ n.toNat ≤ 9 := by
  simp [isBcd, BitVec.le_def]

theorem picnoValue_eq_some {d4 : BitVec 3} {d3 d2 d1 d0 : BitVec 4} {n : Nat} :
    picnoValue d4 d3 d2 d1 d0 = some n ↔
      (d3.toNat ≤ 9 ∧ d2.toNat ≤ 9 ∧ d1.toNat ≤ 9 ∧ d0.toNat ≤ 9) ∧
        n = 10000 * d4.toNat + 1000 * d3.toNat + 100 * d2.toNat + 10 * d1.toNat + d0.toNat := by
  unfold picnoValue
  simp only [Bool.and_eq_true, isBcd_iff, and_assoc]
  split <;> simp_all [eq_comm]

theorem timecodeValue_eq_some {hr mt mu : BitVec 4} {t : Nat × Nat} :
    timecodeValue hr mt mu = some t ↔
      (hr.toNat ≤ 9 ∧ mt.toNat ≤ 5 ∧ mu.toNat ≤ 9) ∧ t = (hr.toNat, 10 * mt.toNat + mu.toNat) := by
  unfold timecodeValue
  simp only [Bool.and_eq_true, isBcd_iff, and_assoc, decide_eq_true_eq, BitVec.le_def]
  split <;> simp_all [eq_comm]

theorem chapterValue_eq_some {ct : BitVec 3} {cu : BitVec 4} {n : Nat} :
    chapterValue ct cu = some n ↔ cu.toNat ≤ 9 ∧ n = 10 * ct.toNat + cu.toNat := by
  unfold chapterValue
  simp only [isBcd_iff]
  split <;> simp_all [eq_comm]

theorem clvsecValue_eq_some {x1 x3 x4 x5 : BitVec 4} {t : Nat × Nat} :
    clvsecValue x1 x3 x4 x5 = some t ↔
      (10 ≤ x1.toNat ∧ x3.toNat ≤ 9 ∧ x4.toNat ≤ 9 ∧ x5.toNat ≤ 9) ∧
        t = (10 * (x1.toNat - 10) + x3.toNat, 10 * x4.toNat + x5.toNat) := by
  unfold clvsecValue
  simp only [Bool.and_eq_true, isBcd_iff, and_assoc, decide_eq_true_eq, BitVec.le_def]
  split <;> simp_all [eq_comm]

theorem usercodeValue_eq_some {x1 : BitVec 4} {x345 : BitVec 12} {u : BitVec 16} :
    usercodeValue x1 x345 = some u ↔ x1.toNat ≤ 7 ∧ u = x1 ++ x345 := by
  unfold usercodeValue
  simp only [BitVec.le_def]
  split <;> simp_all [eq_comm]

/-- The first candidate is used if it is valid, else the rest is examined. -/
theorem firstValid_cons {α : Type} (format : LineWord → Option α) (c : LineWord) (rest : List LineWord) :
    firstValid format (c :: rest) = (format c).or (firstValid format rest) := by
  rw [firstValid]
  cases format c <;> rfl

@[simp] theorem firstValid_nil {α : Type} (format : LineWord → Option α) : firstValid format [] = none := rfl

/-- A number is encodable exactly inside its range (45_vbi_encode.md R242). -/
theorem encodable_eq_some {v : BitVec 32} {hi : Int} {n : Nat} :
    encodable v hi = some n ↔ (0 ≤ v.toInt ∧ v.toInt ≤ hi) ∧ n = v.toInt.toNat := by
  unfold encodable
  split <;> simp_all [eq_comm]

/-! ### The register map (10_state.md R27, R28) -/

/-- A register found at an index is the map's. -/
theorem regAt_eq_some {index : Nat} {r : RegName} (h : regAt index = some r) : (index, r) ∈ registerMap := by
  unfold regAt at h
  obtain ⟨l₁, l₂, hl, _⟩ := List.lookup_eq_some_iff.mp h
  rw [hl]
  simp

/-- Index 0 is `CMD`. -/
@[simp] theorem regAt_zero : regAt 0 = some .cmd := rfl

/-- A register's index leads back to it. -/
theorem regAt_index (r : RegName) : regAt r.index = some r := by
  cases r <;> first | rfl | (rename_i q; cases q <;> rfl)

@[simp] theorem State.writeNamed_host (s : State) (r : RegName) (x : Word) : (s.writeNamed r x).host = s.host := by
  cases r <;> rfl

@[simp] theorem State.writeNamed_status (s : State) (r : RegName) (x : Word) :
    (s.writeNamed r x).status = s.status := by cases r <;> rfl

@[simp] theorem State.writeNamed_errInfo (s : State) (r : RegName) (x : Word) :
    (s.writeNamed r x).errInfo = s.errInfo := by cases r <;> rfl

@[simp] theorem State.writeNamed_actVp (s : State) (r : RegName) (x : Word) :
    (s.writeNamed r x).actVp = s.actVp := by cases r <;> rfl

@[simp] theorem State.writeNamed_actCc (s : State) (r : RegName) (x : Word) :
    (s.writeNamed r x).actCc = s.actCc := by cases r <;> rfl

@[simp] theorem State.writeNamed_frWidth (s : State) (r : RegName) (x : Word) :
    (s.writeNamed r x).frWidth = s.frWidth := by cases r <;> rfl

@[simp] theorem State.writeNamed_frHeight (s : State) (r : RegName) (x : Word) :
    (s.writeNamed r x).frHeight = s.frHeight := by cases r <;> rfl

@[simp] theorem State.writeNamed_f1 (s : State) (r : RegName) (x : Word) : (s.writeNamed r x).f1 = s.f1 := by
  cases r <;> rfl

@[simp] theorem State.writeNamed_f2 (s : State) (r : RegName) (x : Word) : (s.writeNamed r x).f2 = s.f2 := by
  cases r <;> rfl

@[simp] theorem State.writeNamed_rgb (s : State) (r : RegName) (x : Word) : (s.writeNamed r x).rgb = s.rgb := by
  cases r <;> rfl

@[simp] theorem State.writeNamed_prev (s : State) (r : RegName) (x : Word) : (s.writeNamed r x).prev = s.prev := by
  cases r <;> rfl

@[simp] theorem State.writeNamed_curEpoch (s : State) (r : RegName) (x : Word) :
    (s.writeNamed r x).curEpoch = s.curEpoch := by cases r <;> rfl

/-- The buffers of the state after reset have the canonical form (log 9). -/
theorem State.reset_buffers_wf :
    Memory.wf Config.fbufCap State.reset.f1 = true ∧ Memory.wf Config.fbufCap State.reset.f2 = true ∧
      Memory.wf Config.rgbCap State.reset.rgb = true := ⟨rfl, rfl, rfl⟩

/-- A host write of a buffer element keeps the canonical form of all three buffers. -/
theorem State.writeBuf_wf (s : State) (space : BufSpace) (index : Nat) (v : Sample)
    (h1 : Memory.wf Config.fbufCap s.f1 = true) (h2 : Memory.wf Config.fbufCap s.f2 = true)
    (h3 : Memory.wf Config.rgbCap s.rgb = true) :
    Memory.wf Config.fbufCap (s.writeBuf space index v).f1 = true ∧
      Memory.wf Config.fbufCap (s.writeBuf space index v).f2 = true ∧
        Memory.wf Config.rgbCap (s.writeBuf space index v).rgb = true := by
  cases space
  · unfold State.writeBuf
    dsimp only
    split
    · rename_i h
      exact ⟨Memory.wf_write _ _ h h1, h2, h3⟩
    · exact ⟨h1, h2, h3⟩
  · unfold State.writeBuf
    dsimp only
    split
    · rename_i h
      exact ⟨h1, Memory.wf_write _ _ h h2, h3⟩
    · exact ⟨h1, h2, h3⟩
  · exact ⟨h1, h2, h3⟩

/-- A write of a field buffer changes at most that buffer. -/
theorem State.writeBuf_cases (s : State) (space : BufSpace) (index : Nat) (v : Sample) :
    s.writeBuf space index v = s ∨
      (space = .f1 ∧ index < Config.fbufCap ∧
        s.writeBuf space index v = { s with f1 := Memory.write s.f1 index v }) ∨
      (space = .f2 ∧ index < Config.fbufCap ∧
        s.writeBuf space index v = { s with f2 := Memory.write s.f2 index v }) := by
  cases space <;> simp only [State.writeBuf] <;> (try split) <;> simp_all

/-! ### Fault, refusal, the record -/

/-- What a command under the refusal rule answers (40 R111). -/
theorem unlessFault_eq_next {s t : State} {run : State → Result} :
    unlessFault s run = .next t ↔
      (s.status.fault = true ∧ t = s) ∨ (s.status.fault = false ∧ run s = .next t) := by
  unfold unlessFault
  cases s.status.fault <;> simp [eq_comm]

/-- A line code answers one state: the record rewritten, or, under fault, nothing changed. -/
theorem recordStep_eq (s : State) (f : VbiRec → VbiRec) :
    recordStep s f = .next (if s.status.fault then s else { s with vr := f s.vr }) := by
  unfold recordStep unlessFault
  cases s.status.fault <;> rfl

/-- A `CFG` that passes its checks has a legal configuration (40 R116). -/
theorem cfgViolation_eq_none {v : VideoParams} :
    cfgViolation v = none ↔
      (5 ≤ v.fieldWidth.toNat ∧ v.fieldWidth.toNat ≤ 911) ∧
        (1 ≤ v.fieldHeight.toNat ∧ 2 * v.fieldHeight.toNat - 1 ≤ 526) ∧
          (2 ≤ v.activeStart.toNat ∧ v.activeStart.toNat < v.activeEnd.toNat ∧
            v.activeEnd.toNat + 2 ≤ v.fieldWidth.toNat) ∧
            v.black.toNat < v.white.toNat := by
  dsimp only [cfgViolation]
  generalize v.fieldWidth.setWidth 32 = iw
  generalize v.fieldHeight.setWidth 32 = ih
  generalize v.activeStart.setWidth 32 = ia
  generalize (v.white ++ v.black : BitVec 32) = il
  generalize v.fieldWidth.toNat = w, v.fieldHeight.toNat = h, v.activeStart.toNat = a, v.activeEnd.toNat = e,
    v.black.toNat = bk, v.white.toNat = wh
  generalize h1 : (decide (5 ≤ w) && decide (w ≤ Config.maxCols)) = b1
  generalize h2 : (decide (1 ≤ h) && decide (2 * h - 1 ≤ Config.maxLines) && decide (Config.fal < 2 * h - 1)) = b2
  generalize h3 : (decide (2 ≤ a) && decide (a < e) && decide (e + 2 ≤ w)) = b3
  generalize h4 : decide (bk < wh) = b4
  cases b1 <;> cases b2 <;> cases b3 <;> cases b4 <;>
    simp only [Bool.and_eq_false_iff, Bool.and_eq_true, decide_eq_false_iff_not, decide_eq_true_eq] at h1 h2 h3 h4 <;>
    simp only [Config.maxCols, Config.maxLines, Config.fal] at h1 h2 <;>
    simp only [Bool.not_true, Bool.not_false, if_true, Bool.false_eq_true, if_false, reduceCtorEq, false_iff, true_iff] <;>
    omega

/-- The previous frame survives a `CFG` exactly when its geometry is the staged one (40 R117). -/
theorem keepPrev_eq_some {g : Geometry} {p : Option FrameBuffer} {f : FrameBuffer} :
    keepPrev g p = some f ↔ p = some f ∧ f.geom = g := by
  cases p with
  | none => simp [keepPrev]
  | some q =>
    by_cases h : q.geom = g
    · simp only [keepPrev, if_pos h, Option.some.injEq]
      exact ⟨fun e => ⟨e, e ▸ h⟩, fun e => e.1⟩
    · simp only [keepPrev, if_neg h, Option.some.injEq]
      exact ⟨fun e => (nomatch e), fun e => absurd (e.1 ▸ e.2) h⟩

/-- What a `CFG` answers outside the fault state. -/
theorem execCfg_eq {s : State} (h : s.status.fault = false) :
    execCfg s = match cfgViolation s.vp with
      | some (e, info) => .next (s.raise e info)
      | none => .next s.latchConfig := by
  unfold execCfg unlessFault
  rw [h]
  rfl

/-- What a `DECF` answers outside the fault state. -/
theorem execDecf_eq {s : State} (h : s.status.fault = false) :
    execDecf s = match decfViolation s.beginDecf with
      | some (e, info) => .next (s.beginDecf.raise e info)
      | none => .next s.beginDecf.completeDecf := by
  unfold execDecf unlessFault
  rw [h]
  rfl

/-- A `DECF` passes its six checks exactly when they hold (41 R131). -/
theorem decfViolation_eq_none {s : State} :
    decfViolation s = none ↔
      s.status.configured = true ∧ s.actVp.isPal = 0#1 ∧
        s.f1Len.toNat = s.actVp.fieldWidth.toNat * s.actVp.fieldHeight.toNat ∧
          s.f2Len.toNat = s.actVp.fieldWidth.toNat * s.actVp.fieldHeight.toNat ∧
            legalPhase s.f1Phase = true ∧ legalPhase s.f2Phase = true := by
  simp only [decfViolation]
  by_cases h1 : s.status.configured = true <;> by_cases h2 : s.actVp.isPal = 0#1 <;>
    by_cases h3 : s.f1Len.toNat = s.actVp.fieldWidth.toNat * s.actVp.fieldHeight.toNat <;>
    by_cases h4 : s.f2Len.toNat = s.actVp.fieldWidth.toNat * s.actVp.fieldHeight.toNat <;>
    by_cases h5 : legalPhase s.f1Phase = true <;> by_cases h6 : legalPhase s.f2Phase = true <;>
    simp [h1, h2, h3, h4, h5, h6]

/-! ### What a step takes next (00_scope.md R2, 10_state.md R22; log 2) -/

/-- The next step after a command is presented is its write to `CMD`. -/
@[simp] theorem step_presentCommand (s : State) (c : Word) : step (s.presentCommand c) = commandWrite c s := rfl

/-- A command word that decodes runs its instruction. -/
theorem commandWrite_eq_exec {s : State} {c : Word} {i : Instr} (h : decode (.command c) = .ok i) :
    commandWrite c s = exec i s := by
  unfold commandWrite
  rw [h]

theorem State.withFetchWord_command (s : State) (w : Nat) :
    s.withFetchWord 32 w = s.presentCommand (BitVec.ofNat 32 w) := rfl

/-- A line code is placed alone in the VBI words and `VDEC` is presented. -/
theorem State.withFetchWord_lineCode {s : State} {w : Nat} {i : Instr} (h : decodeTableWord 24 w = some i) :
    s.withFetchWord 24 w = { s with vw := VbiWords.alone i (BitVec.ofNat 24 w) }.presentCommand 0x00000003#32 := by
  have hd : decodeLine (BitVec.ofNat 24 w) = .ok i := by
    change (decodeLine (BitVec.ofNat 24 w)).toOption = some i at h
    cases hl : decodeLine (BitVec.ofNat 24 w) with
    | error e => rw [hl] at h; cases h
    | ok j => rw [hl] at h; cases h; rfl
  change (match decodeLine (BitVec.ofNat 24 w) with
    | .ok j => { s with vw := VbiWords.alone j (BitVec.ofNat 24 w) }.presentCommand 0x00000003#32
    | .error _ => { s with vw := { VbiWords.zero with w117 := BitVec.ofNat 24 w } }.presentCommand 0x00000003#32) = _
  rw [hd]

/-! ### The record updates of the line codes (44_vbi_decode.md R213 to R229) -/

@[simp] theorem VbiRec.markIf_false (r : VbiRec) (n : Nat) : r.markIf n false = r := rfl
@[simp] theorem VbiRec.markIf_true (r : VbiRec) (n : Nat) :
    r.markIf n true = { r with flags := setFlag r.flags n true } := rfl
@[simp] theorem VbiRec.withPicno_picNo (r : VbiRec) (n : Nat) : (r.withPicno n).picNo = BitVec.ofNat 32 n := rfl
@[simp] theorem VbiRec.withTimecode_picNo (r : VbiRec) (t : Nat × Nat) : (r.withTimecode t).picNo = r.picNo := rfl
@[simp] theorem VbiRec.withTimecode_clvHr (r : VbiRec) (t : Nat × Nat) :
    (r.withTimecode t).clvHr = BitVec.ofNat 32 t.1 := rfl
@[simp] theorem VbiRec.applyFound_some {α : Type} (r : VbiRec) (v : α) (f : VbiRec → α → VbiRec) :
    r.applyFound (some v) f = f r v := rfl
@[simp] theorem VbiRec.applyFound_none {α : Type} (r : VbiRec) (f : VbiRec → α → VbiRec) :
    r.applyFound none f = r := rfl

/-! ### The formulas at the default parameters (00_scope.md R11; log 10) -/

@[simp] theorem lsb_eq : Config.lsb = 16 := rfl
@[simp] theorem unitGain_eq : Config.unitGain = 256 := rfl
@[simp] theorem unitIre_eq : Config.unitIre = 16 := rfl

/-- The 1D estimate as 41 R136 writes it. -/
theorem clp1D_eq (raw : Plane) (y x : Nat) :
    clp1D raw y x = 4 * (2 * planeAt raw y x - planeAt raw y (x - 2) - planeAt raw y (x + 2)) := rfl

/-- The 3D estimate as 41 R143 writes it. -/
theorem clp3D_eq (raw prevRaw : Plane) (y x : Nat) :
    clp3D raw prevRaw y x = 8 * (planeAt raw y x - planeAt prevRaw y x) := rfl

/-- The threshold as 42 R171 writes it. -/
theorem threshold_eq (c : CombParams) (level : Int) : threshold c level = level * c.w100 / 100 := by
  show level * c.w100 * 16 / (100 * 16) = level * c.w100 / 100
  exact Int.mul_ediv_mul_of_pos_left _ _ (by decide)

/-- The luma scale as 43 R192 writes it. -/
theorem lumaScale_eq (c : CombParams) (v : Int) :
    lumaScale c v = clampInt (rdiv ((v - 16 * c.black) * 65535 * c.num) (64 * c.w100)) 0 65535 := rfl

/-- The chroma scale as 43 R193 writes it. -/
theorem chromaScale_eq (c : CombParams) (v : Int) :
    chromaScale c v = rdiv (v * 65535 * c.num * c.g) (64 * c.w100 * 256) := rfl

/-! ### Planes (41_comb_separation.md R137) -/

theorem getD_map_range {α : Type} (n : Nat) (f : Nat → α) (d : α) (k : Nat) :
    ((List.range n).map f).getD k d = if k < n then f k else d := by
  rw [List.getD_eq_getElem?_getD, List.getElem?_map]
  by_cases h : k < n
  · simp [h]
  · simp [h]

theorem planeAt_tabulate (h w : Nat) (f : Nat → Nat → Int) (y x : Nat) :
    planeAt (planeTabulate h w f) y x = if y < h ∧ x < w then f y x else 0 := by
  unfold planeAt planeTabulate
  rw [getD_map_range]
  by_cases hy : y < h
  · rw [if_pos hy, getD_map_range]
    by_cases hx : x < w <;> simp [hy, hx]
  · simp [hy]

/-- A plane of the active window reads as its function there and as 0 elsewhere. -/
theorem planeAt_activePlane (c : CombParams) (f : Nat → Nat → Int) (y x : Nat) :
    planeAt (activePlane c f) y x = if y < c.frameHeight ∧ x < c.width ∧ c.active y x = true then f y x else 0 := by
  unfold activePlane
  rw [planeAt_tabulate]
  by_cases hy : y < c.frameHeight <;> by_cases hx : x < c.width <;> simp [hy, hx]

/-- The active window (00 R16), with `FAL` at its default. -/
theorem CombParams.active_iff (c : CombParams) (y x : Nat) :
    c.active y x = true ↔ y < c.frameHeight ∧ c.avs ≤ x ∧ x < c.ave := by
  simp [CombParams.active, Config.fal, and_assoc]

/-- The frame the 3D strategy uses (41 R140). -/
theorem reference3D_eq_some {c : CombParams} {g : Geometry} {p1 p2 : BitVec 3} {p : Option FrameBuffer}
    {f : FrameBuffer} :
    reference3D c g p1 p2 p = some f ↔
      p = some f ∧ c.use3D = true ∧ f.geom = g ∧ posEven f.p1 ≠ posEven p1 ∧ posEven f.p2 ≠ posEven p2 := by
  cases p with
  | none => simp [reference3D]
  | some q =>
    simp only [reference3D, Option.some.injEq]
    split
    · rename_i h
      simp only [Bool.and_eq_true, beq_iff_eq, bne_iff_ne, ne_eq, and_assoc] at h
      simp only [Option.some.injEq]
      exact ⟨fun e => e ▸ ⟨rfl, h⟩, fun e => e.1⟩
    · rename_i h
      simp only [Bool.and_eq_true, beq_iff_eq, bne_iff_ne, ne_eq, and_assoc] at h
      exact ⟨fun e => (nomatch e), fun e => absurd (e.1 ▸ e.2) h⟩

/-! ### Demodulation (42_iq_demod_filters.md R160) -/

@[simp] theorem demodFrom_length (s : Int) (x : Nat) (held : Int × Int) (l : List Int) :
    (demodFrom s x held l).length = l.length := by
  induction l generalizing x held with
  | nil => rfl
  | cons c l ih => simp [demodFrom, ih]

/-- The pair of a column from the one before it. -/
theorem demodFrom_getD_succ (s : Int) (x : Nat) (held : Int × Int) (l : List Int) (k : Nat) (h : k + 1 < l.length) :
    (demodFrom s x held l).getD (k + 1) (0, 0) =
      demodStep s (x + k + 1) (l.getD (k + 1) 0) ((demodFrom s x held l).getD k (0, 0)) := by
  induction l generalizing x held k with
  | nil => simp at h
  | cons c l ih =>
    cases k with
    | zero =>
      cases l with
      | nil => simp at h
      | cons d l => simp [demodFrom]
    | succ k =>
      have h' : k + 1 < l.length := by simpa using h
      simp only [demodFrom, List.getD_cons_succ]
      rw [ih (x + 1) _ k h']
      rw [show x + 1 + k + 1 = x + (k + 1) + 1 by omega]

/-- The pair of the first column. -/
theorem demodFrom_getD_zero (s : Int) (x : Nat) (held : Int × Int) (c : Int) (l : List Int) :
    (demodFrom s x held (c :: l)).getD 0 (0, 0) = demodStep s x c held := rfl

/-- The frame in `RGB` reads element by element (43 R199). -/
theorem read_frameMemory (c : CombParams) (use3 : Bool) (f : FrameBuffer) (k : Nat) :
    Memory.read (frameMemory c use3 f) k =
      if k < c.frameHeight * c.width * 3 then some (frameElem c use3 f k) else none := Memory.read_tabulate _ _ _

end Sys2Proof.Machine
end

