-- ==== Sys2Proof/Laws/PerInstr.lean ====
section
/-! SUPPORT. The family `TableRow`: the encoding of every instruction agrees with its row of spec/opcode_table.json,
match and mask (30_encoding.md R83, R92 to R98). -/

namespace Sys2Proof.Laws

/-- The match and the mask of an instruction's row: format CMD32 on the left, VBI24 on the right. -/
def tableRow : Instr → (Word × Word) ⊕ (LineWord × LineWord)
  | .nop => .inl (0x00000000#32, 0xFFFFFFFF#32)
  | .cfg => .inl (0x00000001#32, 0xFFFFFFFF#32)
  | .decf => .inl (0x00000002#32, 0xFFFFFFFF#32)
  | .vdec => .inl (0x00000003#32, 0xFFFFFFFF#32)
  | .venc _ => .inl (0x00000004#32, 0xFFFFFEFF#32)
  | .srst => .inl (0x0000000F#32, 0xFFFFFFFF#32)
  | .leadin => .inr (0x88FFFF#24, 0xFFFFFF#24)
  | .leadout => .inr (0x80EEEE#24, 0xFFFFFF#24)
  | .stop => .inr (0x82CFFF#24, 0xFFFFFF#24)
  | .clvmark => .inr (0x87FFFF#24, 0xFFFFFF#24)
  | .picno _ _ _ _ _ _ => .inr (0xF00000#24, 0xF00000#24)
  | .timecode _ _ _ => .inr (0xF0DD00#24, 0xF0FF00#24)
  | .chapter _ _ _ => .inr (0x800DDD#24, 0xF00FFF#24)
  | .clvsec _ _ _ _ => .inr (0x80E000#24, 0xF0F000#24)
  | .statusCxOn _ _ _ => .inr (0x8DC000#24, 0xFFF000#24)
  | .statusCxOff _ _ _ => .inr (0x8BA000#24, 0xFFF000#24)
  | .usercode _ _ => .inr (0x80D000#24, 0xF0F000#24)

/-- The encoding of an instruction, under its row's mask, is its row's match. -/
def TableRow.Statement (i : Instr) : Prop :=
  match encode i, tableRow i with
  | .command w, .inl (pattern, mask) => w &&& mask = pattern
  | .lineCode w, .inr (pattern, mask) => w &&& mask = pattern
  | _, _ => False

theorem TableRow.nop : TableRow.Statement .nop := rfl
theorem TableRow.cfg : TableRow.Statement .cfg := rfl
theorem TableRow.decf : TableRow.Statement .decf := rfl
theorem TableRow.vdec : TableRow.Statement .vdec := rfl
theorem TableRow.venc (p : BitVec 1) : TableRow.Statement (.venc p) := by
  show (0#23 ++ p ++ 0x04#8) &&& 0xFFFFFEFF#32 = 0x00000004#32
  revert p
  decide
theorem TableRow.srst : TableRow.Statement .srst := rfl
theorem TableRow.leadin : TableRow.Statement .leadin := rfl
theorem TableRow.leadout : TableRow.Statement .leadout := rfl
theorem TableRow.stop : TableRow.Statement .stop := rfl
theorem TableRow.clvmark : TableRow.Statement .clvmark := rfl

theorem TableRow.picno (s19 : BitVec 1) (d4 : BitVec 3) (d3 d2 d1 d0 : BitVec 4) :
    TableRow.Statement (.picno s19 d4 d3 d2 d1 d0) := by
  show (0xF#4 ++ s19 ++ d4 ++ d3 ++ d2 ++ d1 ++ d0) &&& 0xF00000#24 = 0xF00000#24
  ext k hk
  simp only [BitVec.getElem_and, BitVec.getElem_append]
  interval_cases k <;> simp

theorem TableRow.timecode (hr mt mu : BitVec 4) : TableRow.Statement (.timecode hr mt mu) := by
  show (0xF#4 ++ hr ++ 0xDD#8 ++ mt ++ mu) &&& 0xF0FF00#24 = 0xF0DD00#24
  ext k hk
  simp only [BitVec.getElem_and, BitVec.getElem_append]
  interval_cases k <;> simp

theorem TableRow.chapter (c19 : BitVec 1) (ct : BitVec 3) (cu : BitVec 4) :
    TableRow.Statement (.chapter c19 ct cu) := by
  show (0x8#4 ++ c19 ++ ct ++ cu ++ 0xDDD#12) &&& 0xF00FFF#24 = 0x800DDD#24
  ext k hk
  simp only [BitVec.getElem_and, BitVec.getElem_append]
  interval_cases k <;> simp

theorem TableRow.clvsec (x1 x3 x4 x5 : BitVec 4) : TableRow.Statement (.clvsec x1 x3 x4 x5) := by
  show (0x8#4 ++ x1 ++ 0xE#4 ++ x3 ++ x4 ++ x5) &&& 0xF0F000#24 = 0x80E000#24
  ext k hk
  simp only [BitVec.getElem_and, BitVec.getElem_append]
  interval_cases k <;> simp

theorem TableRow.statusCxOn (x3 x4 x5 : BitVec 4) : TableRow.Statement (.statusCxOn x3 x4 x5) := by
  show (0x8DC#12 ++ x3 ++ x4 ++ x5) &&& 0xFFF000#24 = 0x8DC000#24
  ext k hk
  simp only [BitVec.getElem_and, BitVec.getElem_append]
  interval_cases k <;> simp

theorem TableRow.statusCxOff (x3 x4 x5 : BitVec 4) : TableRow.Statement (.statusCxOff x3 x4 x5) := by
  show (0x8BA#12 ++ x3 ++ x4 ++ x5) &&& 0xFFF000#24 = 0x8BA000#24
  ext k hk
  simp only [BitVec.getElem_and, BitVec.getElem_append]
  interval_cases k <;> simp

theorem TableRow.usercode (x1 : BitVec 4) (x345 : BitVec 12) : TableRow.Statement (.usercode x1 x345) := by
  show (0x8#4 ++ x1 ++ 0xD#4 ++ x345) &&& 0xF0F000#24 = 0x80D000#24
  ext k hk
  simp only [BitVec.getElem_and, BitVec.getElem_append]
  interval_cases k <;> simp

end Sys2Proof.Laws
end

