-- ==== Sys2Proof/Tests/Slice0.lean ====
section
/-! SUPPORT. The model's own tests. Every expected value is from spec/: the rule or the worked example is named. The
theorems named `witness_…` show, for a statement with hypotheses, a concrete state and operands that meet them. -/

namespace Sys2Proof.Tests

open Sys2Proof.Machine

/-! ### Helpers -/

/-- The next state of an outcome. -/
def after : Result → State
  | .next t => t
  | .fault _ => State.reset
  | .refused _ => State.reset

/-- The state after reset with one pending host event. -/
def pending (e : HostEvent) : State := { State.reset with host := [e] }

/-- The state after reset in the fault state of an illegal word 5 (60 R263). -/
def faulted : State := { State.reset with status := ⟨false, true, false, false, 1#8⟩, errInfo := 5#32 }

/-- Staged VideoParameters. -/
def staged (w h a b bk wh : BitVec 16) : State :=
  { State.reset with vp := ⟨w, h, a, b, 0#16, 0#16, bk, wh, 0#1⟩ }

/-- A configured state of three field lines, ready for `DECF`: all samples 29000, phase IDs 1 and 1. -/
def ready (w a b : BitVec 16) (flags : BitVec 5) (cnr ynr : BitVec 8) : State :=
  { State.reset with
    status := ⟨true, false, false, false, 0#8⟩
    actVp := ⟨w, 3#16, a, b, 0#16, 0#16, 15360#16, 51200#16, 0#1⟩
    actCc := ⟨256#10, flags, cnr, ynr⟩
    f1Len := BitVec.ofNat 18 (3 * w.toNat)
    f2Len := BitVec.ofNat 18 (3 * w.toNat)
    f1Phase := 1#3
    f2Phase := 1#3
    f1 := Memory.tabulate (3 * w.toNat) fun _ => 29000#16
    f2 := Memory.tabulate (3 * w.toNat) fun _ => 29000#16 }

/-- The narrowest frame: 5 columns, column 2 active. -/
def narrow : State := ready 5#16 2#16 3#16 0#5 0#8 0#8

/-- A previous frame for `narrow`: all samples 0, phase IDs 2 and 2. -/
def previous : FrameBuffer :=
  ⟨List.replicate 5 (List.replicate 5 0), [], [], [], [], [], [], [], 2#3, 2#3, ⟨5#16, 3#16, 2#16, 3#16⟩⟩

/-- `narrow` with a previous frame, `use3D` and the overlay flag. -/
def second : State :=
  { narrow with actCc := ⟨256#10, 0x18#5, 0#8, 0#8⟩, prev := some previous }

/-- The frame buffer that a `DECF` at a state leaves in `PREV`. -/
def kept (s : State) : FrameBuffer := (after (exec .decf s)).prev.getD previous

/-- The state after reset with six VBI words. -/
def words (a b c d e f : LineWord) : State := { State.reset with vw := ⟨a, b, c, d, e, f⟩ }

/-- The state after reset with a record. -/
def withRecord (r : VbiRec) : State := { State.reset with vr := r }

/-! ### `WellFormed`: an ill-formed term for each check (30 R94, R95, R96, R100) -/

theorem test_wf_refuses_picno_with_timecode_filler : (Instr.picno 0#1 1#3 0xD#4 0xD#4 2#4 3#4).wf = false := by decide
theorem test_wf_refuses_chapter_units_D : (Instr.chapter 0#1 3#3 0xD#4).wf = false := by decide
theorem test_wf_refuses_chapter_units_E : (Instr.chapter 0#1 3#3 0xE#4).wf = false := by decide
theorem test_wf_refuses_chapter_that_is_status_8DC : (Instr.chapter 1#1 5#3 0xC#4).wf = false := by decide
theorem test_wf_refuses_chapter_that_is_status_8BA : (Instr.chapter 1#1 3#3 0xA#4).wf = false := by decide
theorem test_wf_refuses_clvsec_that_is_leadout : (Instr.clvsec 0#4 0xE#4 0xE#4 0xE#4).wf = false := by decide

/-! ### Decoding: a word written out from the spec for every constructor -/

theorem test_decode_nop : decode (.command 0x00000000#32) = .ok .nop := by rfl
theorem test_decode_cfg : decode (.command 0x00000001#32) = .ok .cfg := by rfl
theorem test_decode_decf : decode (.command 0x00000002#32) = .ok .decf := by rfl
theorem test_decode_vdec : decode (.command 0x00000003#32) = .ok .vdec := by rfl
theorem test_decode_venc_ntsc : decode (.command 0x00000004#32) = .ok (.venc 0#1) := by rfl
theorem test_decode_venc_pal : decode (.command 0x00000104#32) = .ok (.venc 1#1) := by rfl
theorem test_decode_srst : decode (.command 0x0000000F#32) = .ok .srst := by rfl
theorem test_decode_reserved_opcode : decode (.command 0x00000005#32) = .error .reservedOpcode := by rfl
theorem test_decode_reserved_bits : decode (.command 0x00000201#32) = .error .reservedBits := by rfl
theorem test_decode_operand_not_allowed : decode (.command 0x00000102#32) = .error .operandNotAllowed := by rfl
theorem test_decode_leadin : decode (.lineCode 0x88FFFF#24) = .ok .leadin := by rfl
theorem test_decode_leadout : decode (.lineCode 0x80EEEE#24) = .ok .leadout := by rfl
theorem test_decode_stop : decode (.lineCode 0x82CFFF#24) = .ok .stop := by rfl
theorem test_decode_clvmark : decode (.lineCode 0x87FFFF#24) = .ok .clvmark := by rfl
theorem test_decode_picno : decode (.lineCode 0xFA2345#24) = .ok (.picno 1#1 2#3 2#4 3#4 4#4 5#4) := by rfl
theorem test_decode_timecode : decode (.lineCode 0xF9DD59#24) = .ok (.timecode 9#4 5#4 9#4) := by rfl
theorem test_decode_chapter : decode (.lineCode 0x8F9DDD#24) = .ok (.chapter 1#1 7#3 9#4) := by rfl
theorem test_decode_clvsec : decode (.lineCode 0x8AE959#24) = .ok (.clvsec 10#4 9#4 5#4 9#4) := by rfl
theorem test_decode_status_on : decode (.lineCode 0x8DC12A#24) = .ok (.statusCxOn 1#4 2#4 10#4) := by rfl
theorem test_decode_status_off : decode (.lineCode 0x8BA000#24) = .ok (.statusCxOff 0#4 0#4 0#4) := by rfl
theorem test_decode_usercode : decode (.lineCode 0x83D1AB#24) = .ok (.usercode 3#4 0x1AB#12) := by rfl
theorem test_decode_user_code_before_chapter : decode (.lineCode 0x83DDDD#24) = .ok (.usercode 3#4 0xDDD#12) := by rfl
theorem test_decode_unrecognised : decode (.lineCode 0x000000#24) = .error .unrecognisedLine := by rfl
theorem test_decode_table_word : decodeTableWord 24 0xF1DD23 = some (.timecode 1#4 2#4 3#4) := by rfl
theorem test_fetch_word : (State.reset.withFetchWord 32 0x104).fetch = some (0x104#32, State.reset) := by rfl

/-- 44 R218, R232: `0x812DDD` alone is read by the `VDEC` that the step runs; the chapter number is 12. -/
theorem test_fetch_line_code : (after (step (State.reset.withFetchWord 24 0x812DDD))).vr.chNo = 12#32 := by decide

/-! ### Commands -/

/-- 40 R112: `NOP` after reset leaves `STATUS` = 0. -/
theorem test_nop_status : (after (exec .nop State.reset)).readReg 1 = 0#32 := by decide

/-- 40 R118: the worked configuration passes. -/
theorem test_cfg_accepts : (after (exec .cfg (staged 910#16 263#16 134#16 894#16 15360#16 51200#16))).readReg 1 = 1#32 := by
  decide

/-- 40 R118: height 264 fails check 2, `ERR` 3, `ERRINFO` `0x00020108`. -/
theorem test_cfg_height_264 :
    (after (exec .cfg (staged 910#16 264#16 134#16 894#16 15360#16 51200#16))).errInfo = 0x00020108#32 := by decide

/-- 60 R264: `DECF` after reset gives `STATUS` = `0x0202`. -/
theorem test_decf_not_configured : (after (exec .decf State.reset)).readReg 1 = 0x00000202#32 := by decide

/-- 41 R136 on a flat field: no chroma, the luma of 29000 is 464000 in Q.4; 43 R192: `rdiv(218240 * 65535 * 4,
64 * 35840)`. -/
theorem test_decf_flat_field :
    let t := after (exec .decf narrow)
    planeAt (kept narrow).yiqY 2 2 = 464000 ∧ t.readReg 1 = 0x00000015#32 ∧
      (t.readBuf .rgb ((2 * 5 + 2) * 3)).toNat = 24941 := by decide

/-- 44 R232: the CLV example. -/
theorem test_vdec_clv :
    let r := vdecRecord ⟨0x8EE529#24, 0xF1DD23#24, 0xF1DD23#24, 0x87FFFF#24, 0#24, 0x812DDD#24⟩
    r.discType = 2#2 ∧ r.clvHr = 1#32 ∧ r.clvMin = 23#32 ∧ r.clvSec = 45#32 ∧ r.clvPicNo = 29#32 ∧ r.chNo = 12#32 := by
  decide

/-- 44 R232: the programme status example beside a picture number. -/
theorem test_vdec_status :
    let r := vdecRecord ⟨0x8DC12A#24, 0xF00100#24, 0xF00100#24, 0#24, 0#24, 0#24⟩
    r.discType = 1#2 ∧ r.picNo = 100#32 ∧ r.flags = 0x0938#13 ∧ r.sound = 0xB5#8 := by decide

/-- 45 R257: the CAV stop frame with chapter, NTSC. -/
theorem test_venc_cav_stop :
    vencWords { VbiRec.default with discType := 1#2, picNo := 79999#32, chNo := 79#32, flags := 4#13 } 0#1 =
      ⟨0#24, 0xFF9999#24, 0xFF9999#24, 0x82CFFF#24, 0x82CFFF#24, 0x879DDD#24⟩ := by decide

/-- 45 R257: the CLV record. -/
theorem test_venc_clv :
    vencWords
        { VbiRec.default with
          discType := 2#2, chNo := 12#32, clvHr := 1#32, clvMin := 23#32, clvSec := 45#32, clvPicNo := 29#32 } 1#1 =
      ⟨0x8EE529#24, 0xF1DD23#24, 0xF1DD23#24, 0x87FFFF#24, 0#24, 0x812DDD#24⟩ := by decide

/-- 40 R119: `SRST` gives `STATUS` = 0 from the fault state. -/
theorem test_srst_clears_fault : (after (exec .srst faulted)).readReg 1 = 0#32 := by decide

/-- 60 R263: an illegal word gives `STATUS` = `0x0102` and itself as `ERRINFO`. -/
theorem test_bad_command :
    let t := after (step (pending (.writeReg 0 5#32)))
    t.readReg 1 = 0x00000102#32 ∧ t.readReg 2 = 5#32 := by decide

/-- 10 R28: what index names which register, at indices of equal width. -/
theorem test_register_indices :
    (after (step (pending (.writeReg 0x22 0x105#32)))).cc.cnrLevel = 5#8 ∧
    (after (step (pending (.writeReg 0x32 7#32)))).f2Len = 7#18 ∧
    (after (step (pending (.writeReg 0x41 0x01F12345#32)))).vw.w117 = 0xF12345#24 ∧
    (after (step (pending (.writeReg 0x4C 59#32)))).vr.clvMin = 59#32 ∧
    faulted.readReg 0x02 = 5#32 ∧ { State.reset with frHeight := 525#16 }.readReg 0x39 = 525#32 := by decide

/-! ### Line codes -/

theorem test_leadin : (after (exec .leadin State.reset)).vr.flags = 1#13 := by decide
theorem test_leadout : (after (exec .leadout State.reset)).vr.flags = 2#13 := by decide
theorem test_stop : (after (exec .stop State.reset)).vr.flags = 4#13 := by decide
theorem test_clvmark : (after (exec .clvmark State.reset)).vr.discType = 2#2 := by decide

/-- 44 R215: `0xFA2345` gives 22345. -/
theorem test_picno : (after (exec (.picno 1#1 2#3 2#4 3#4 4#4 5#4) State.reset)).vr.picNo = 22345#32 := by decide

/-- 44 R216: `0xF1DD60` is not valid. -/
theorem test_timecode_minute_tens_6 : (after (exec (.timecode 1#4 6#4 0#4) State.reset)).vr = VbiRec.default := by decide

/-- 44 R218: `0x8F9DDD` gives 79. -/
theorem test_chapter : (after (exec (.chapter 1#1 7#3 9#4) State.reset)).vr.chNo = 79#32 := by decide

/-- 44 R220: `0x8FE999` gives second 59, picture 99. -/
theorem test_clvsec :
    let r := (after (exec (.clvsec 15#4 9#4 9#4 9#4) State.reset)).vr
    r.clvSec = 59#32 ∧ r.clvPicNo = 99#32 := by decide

/-- 44 R227: `0x8DC8A7` gives `0x12A8` and `0xB8`. -/
theorem test_status_on :
    let r := (after (exec (.statusCxOn 8#4 10#4 7#4) State.reset)).vr
    r.flags = 0x12A8#13 ∧ r.sound = 0xB8#8 := by decide

/-- 44 R227: `0x8BA000` gives `0x0430` and sound 0. -/
theorem test_status_off :
    let r := (after (exec (.statusCxOff 0#4 0#4 0#4) State.reset)).vr
    r.flags = 0x0430#13 ∧ r.sound = 0#8 := by decide

/-- 44 R229: `0x83D1AB` under lead-in gives `0x131AB`. -/
theorem test_usercode :
    (after (exec (.usercode 3#4 0x1AB#12) (withRecord { VbiRec.default with flags := 1#13 }))).vr.userCode =
      0x131AB#17 := by decide

/-! ### Worked examples of the stages of `DECF` -/

/-- 00 R13. -/
theorem test_rdiv : rdiv 5 2 = 3 ∧ rdiv (-5) 2 = -2 ∧ rdiv (-6) 4 = -1 ∧ rdiv 6 4 = 2 ∧ fdiv (-1) 4 = -1 := by decide

/-- 41 R136. -/
theorem test_clp1D : clp1D [[29000, 0, 31000, 0, 29000]] 0 2 = 16000 := by decide

/-- 41 R138. -/
theorem test_clp2D : clp2D [[-16000], [0], [16000], [0], [-16000]] 2 0 = 16000 := by decide

/-- 41 R145, with `W100` = 35840. -/
theorem test_confidence :
    let c := narrow.params
    confidence c 55 = 256 ∧ confidence c 56 = 255 ∧ confidence c 7168 = 128 ∧ confidence c 14336 = 0 := by decide

/-- 41 R147. -/
theorem test_blend : blend 128 16000 8000 = 12000 ∧ blend 255 (-1) 0 = -1 := by decide

/-- 42 R160: the pairs at columns 4 to 7. -/
theorem test_demod :
    demodFrom 1 4 (0, 0) [-16000, -32000, 16000, 32000] =
      [(0, -16000), (32000, -16000), (32000, -16000), (32000, -16000)] := by decide

/-- 42 R166: one sample of 1600 under the centre tap gives 400. -/
theorem test_fir_i :
    fir (ready 12#16 2#16 9#16 0#5 0#8 0#8).params Config.firI [[0, 0, 0, 0, 0, 1600, 0, 0, 0, 0]] 0 5 = 400 := by decide

/-- 42 R170: centre 41000 between 1000 and 1000 with threshold 5734 gives 35266. -/
theorem test_coring :
    coreFilter (ready 9#16 2#16 7#16 0#5 0#8 0#8).params [[0, 0, 1000, 41000, 1000, 0]] 5734 0 3 = 35266 := by decide

/-- 42 R176: column 1 mod 4, I = 32000, Y = 448000 gives 480000. -/
theorem test_remodulate : 448000 - remodulate 1 5 32000 0 = 480000 := by decide

/-- 43 R192, R193, R194. -/
theorem test_convert : yiqToRgb narrow.params 480000 32000 (-16000) = ⟨29130, 26958, 19603⟩ := by decide

/-- 30 R89: the `SETVP` of 60 R286 (2), then `CFG`, gives `STATUS` = `0x0302`. -/
theorem test_script_over_size :
    (after (Host.Core.run core 10
      { State.reset with
        host := scriptSETVP ⟨912#16, 263#16, 134#16, 894#16, 0#16, 0#16, 15360#16, 51200#16, 0#1⟩ ++ scriptCommand .cfg })).readReg
      1 = 0x00000302#32 := by decide

/-! ### Witnesses: the hypotheses of each statement can be met -/

theorem witness_LineCodesReadInTheirFormats :
    (Spec.picno 0xF99999#24).isSome = true ∧ (Spec.timecode 0xF9DD59#24).isSome = true ∧
    (Spec.chapter 0x8F9DDD#24).isSome = true ∧ (Spec.clvsec 0x8FE999#24).isSome = true ∧
    (Spec.usercode 0x87DFFF#24).isSome = true ∧ (0x8DCFFF#24).toNat / 0x1000 = 0x8DC ∧
    (0x8BA000#24).toNat / 0x1000 = 0x8BA := by decide

theorem witness_DecodeOfEncode : (Instr.picno 1#1 7#3 9#4 0xD#4 9#4 9#4).wf = true := by decide
theorem witness_EncodeOfDecode : decode (.lineCode 0x80E000#24) = .ok (.clvsec 0#4 0#4 0#4 0#4) := by rfl

theorem witness_StepRunsDecodedInstruction :
    (pending (.writeReg 0 0x104#32)).host = .writeReg 0 0x104#32 :: [] ∧
    decode (.command 0x104#32) = .ok (.venc 1#1) ∧
    decodeTableWord 32 0xF = some .srst ∧
    decodeTableWord 24 0x82CFFF = some .stop := ⟨rfl, rfl, rfl, rfl⟩

theorem witness_IllegalCommandRaisesBadCommand :
    (pending (.writeReg 0 0x10F#32)).host = .writeReg 0 0x10F#32 :: [] ∧
    0x10F#32 ∉ [0x00000000#32, 0x00000001#32, 0x00000002#32, 0x00000003#32, 0x00000004#32, 0x00000104#32, 0x0000000F#32] ∧
    State.reset.status.fault = false ∧ faulted.status.fault = true := by decide

theorem witness_FaultRefusesEveryCommandButSrst :
    faulted.status.fault = true ∧ 0x0000000E#32 ≠ 0x0000000F#32 ∧
    { faulted with host := [.writeReg 0 0xE#32] }.host = .writeReg 0 0xE#32 :: [] ∧
    { faulted with host := [.writeReg 1 3#32] }.host = .writeReg 1 3#32 :: [] := by decide

theorem witness_FaultStaysUntilReset :
    faulted.status.fault = true ∧ step faulted = .next faulted ∧
    (pending .resetInput).host = .resetInput :: [] := ⟨rfl, rfl, rfl⟩

theorem witness_CfgLatches :
    let s := staged 5#16 1#16 2#16 3#16 0#16 1#16
    let u := staged 911#16 263#16 2#16 909#16 0#16 65535#16
    (s.status.fault = false ∧ 5 ≤ s.vp.fieldWidth.toNat ∧ s.vp.fieldWidth.toNat ≤ 911 ∧
      1 ≤ s.vp.fieldHeight.toNat ∧ 2 * s.vp.fieldHeight.toNat - 1 ≤ 526 ∧ 2 ≤ s.vp.activeStart.toNat ∧
      s.vp.activeStart.toNat < s.vp.activeEnd.toNat ∧ s.vp.activeEnd.toNat + 2 ≤ s.vp.fieldWidth.toNat ∧
      s.vp.black.toNat < s.vp.white.toNat) ∧
    (u.status.fault = false ∧ u.vp.fieldWidth.toNat ≤ 911 ∧ 2 * u.vp.fieldHeight.toNat - 1 ≤ 526 ∧
      u.vp.activeEnd.toNat + 2 ≤ u.vp.fieldWidth.toNat ∧ u.vp.black.toNat < u.vp.white.toNat) := by decide

/-- Each clause at its boundary: widths 4 and 912, heights 0 and 264, active windows 1..3, 3..3 and 2..4 of 5 columns,
equal levels, and a configuration that passes. -/
theorem witness_CfgChecksInOrder :
    [staged 4#16 1#16 2#16 3#16 0#16 1#16, staged 912#16 1#16 2#16 3#16 0#16 1#16, staged 5#16 0#16 2#16 3#16 0#16 1#16,
     staged 5#16 264#16 2#16 3#16 0#16 1#16, staged 5#16 1#16 1#16 3#16 0#16 1#16, staged 5#16 1#16 3#16 3#16 0#16 1#16,
     staged 5#16 1#16 2#16 4#16 0#16 1#16, staged 5#16 1#16 2#16 3#16 7#16 7#16,
     staged 5#16 1#16 2#16 3#16 6#16 7#16].map (fun s => (s.status.fault, (after (exec .cfg s)).readReg 1, (after (exec .cfg s)).errInfo)) =
    [(false, 0x302#32, 0x10004#32), (false, 0x302#32, 0x10390#32), (false, 0x302#32, 0x20000#32),
     (false, 0x302#32, 0x20108#32), (false, 0x302#32, 0x30001#32), (false, 0x302#32, 0x30003#32),
     (false, 0x302#32, 0x30002#32), (false, 0x702#32, 0x70007#32), (false, 0x001#32, 0#32)] := by decide

theorem witness_ActiveRegistersReadAsStaged :
    let s := staged 5#16 1#16 2#16 3#16 0#16 1#16
    exec .cfg s = .next (after (exec .cfg s)) ∧ (after (exec .cfg s)).status.fault = false := ⟨rfl, rfl⟩

theorem witness_SrstResets : faulted.status.fault = true := rfl

theorem witness_RegistersReadAfterReset : exec .srst faulted = .next faulted.powerReset := rfl

theorem witness_ResetInputActsAsSrst :
    (pending .resetInput).host = .resetInput :: [] ∧ exec .srst faulted = .next faulted.powerReset ∧
    239592 < 239593 ∧ 1437557 < 1437558 := ⟨rfl, rfl, by decide, by decide⟩

/-- Each clause: not configured, PAL, either length one short, either phase ID 0 or 5, in the order of the checks. -/
theorem witness_DecfChecksInOrder :
    let ok := fun s : State => (after (exec .decf s)).readReg 1
    (ok State.reset, ok { narrow with actVp := { narrow.actVp with isPal := 1#1 } }, ok { narrow with f1Len := 14#18 },
      ok { narrow with f2Len := 16#18 }, ok { narrow with f1Phase := 0#3 }, ok { narrow with f2Phase := 5#3 }) =
    (0x202#32, 0x603#32, 0x403#32, 0x403#32, 0x503#32, 0x503#32) := by decide

theorem witness_DecfCompletes :
    narrow.decfReady = true ∧ { narrow with f2Phase := 4#3 }.decfReady = true ∧ State.reset.decfReady = false ∧
    exec .decf State.reset = .next (after (exec .decf State.reset)) := ⟨by decide, by decide, by decide, rfl⟩

theorem witness_DecfAssemblesFrame :
    narrow.decfReady = true ∧ 4 < 2 * narrow.actVp.fieldHeight.toNat - 1 ∧ 4 < narrow.actVp.fieldWidth.toNat := by decide

theorem witness_DecfOneDimensional :
    narrow.decfReady = true ∧ Spec.inWindow narrow 4 (0 + 2) ∧ ¬Spec.inWindow narrow 4 3 ∧ ¬Spec.inWindow narrow 5 2 := by
  decide

theorem witness_DecfTwoDimensional :
    narrow.decfReady = true ∧ Spec.inWindow narrow (0 + 2) 2 ∧ 0 + 4 < 2 * narrow.actVp.fieldHeight.toNat - 1 ∧
    Spec.inWindow narrow 1 2 ∧ Spec.inWindow narrow 3 2 ∧ 2 * narrow.actVp.fieldHeight.toNat - 1 ≤ 3 + 2 := by decide

theorem witness_useThree : Spec.useThree second := ⟨rfl, previous, rfl, rfl, by decide, by decide⟩

theorem witness_not_useThree : ¬Spec.useThree narrow := fun h => absurd h.1 (by decide)

theorem witness_DecfThreeDimensional :
    second.decfReady = true ∧ second.prev = some previous ∧ Spec.useThree second ∧ Spec.inWindow second 4 (0 + 2) ∧
    narrow.decfReady = true ∧ ¬Spec.useThree narrow :=
  ⟨by decide, rfl, witness_useThree, by decide, by decide, witness_not_useThree⟩

theorem witness_ConfidenceAndBlend :
    0 < narrow.params.w100 ∧ 2 * narrow.params.w100 ≤ 5 * 14336 ∧ (0 : Int) ≤ 0 ∧ (256 : Int) ≤ 256 := by decide

/-- Columns 2 to 6 of a frame of 9, an even and an odd first column. -/
theorem witness_DecfDemodulates :
    let s := ready 9#16 2#16 7#16 0#5 0#8 0#8
    let u := ready 9#16 3#16 7#16 0#5 0#8 0#8
    s.decfReady = true ∧ u.decfReady = true ∧ (∀ x, 2 ≤ x → x < 7 → Spec.inWindow s 4 x) ∧ Spec.inWindow u 0 3 :=
  ⟨by decide, by decide, fun x h1 h2 => ⟨by decide, h1, h2, Nat.lt_trans h2 (by decide)⟩, by decide⟩

/-- The three settings of the two filter flags, and bounds that a constant line meets. -/
theorem witness_ChromaLowPass :
    let c := fun f : BitVec 5 => (ready 9#16 2#16 7#16 f 0#8 0#8).params
    (c 0#5).colorlpf = false ∧ (c 1#5).colorlpf = true ∧ (c 1#5).colorlpfHq = false ∧ (c 3#5).colorlpfHq = true ∧
    Spec.windowOf (c 1#5) 4 6 ∧ ¬Spec.windowOf (c 1#5) 4 7 ∧
    (∀ x' : Nat, (c 1#5).avs ≤ x' → x' < (c 1#5).ave → (0 : Int) ≤ planeAt [] 0 x' ∧ planeAt [] 0 x' ≤ 0) :=
  ⟨by decide, by decide, by decide, by decide, by decide, by decide, fun x' _ _ => by simp [planeAt]⟩

theorem witness_NoiseReducersCore :
    let c := fun l : BitVec 8 => (ready 9#16 2#16 7#16 0#5 l l).params
    (c 0#8).cnr = 0 ∧ (c 0#8).ynr = 0 ∧ 0 < (c 255#8).cnr ∧ 0 < (c 1#8).ynr ∧ 0 < (c 1#8).w100 ∧
    Spec.windowOf (c 1#8) 0 2 := by decide

/-- `W100` = 99 and levels 1: both thresholds are 0. -/
theorem witness_SmallLevelsAreBypass :
    let s := { narrow with actVp := { narrow.actVp with white := 15459#16 }, actCc := ⟨256#10, 0#5, 1#8, 1#8⟩ }
    exec .decf s = .next (after (exec .decf s)) ∧ s.params.cnr * s.params.w100 / 100 = 0 ∧
    s.params.ynr * s.params.w100 / 100 = 0 ∧ s.params.cnr ≠ 0 := ⟨rfl, by decide, by decide, by decide⟩

theorem witness_LumaAdjustment :
    let c := (ready 9#16 2#16 7#16 0#5 0#8 0#8).params
    Spec.windowOf c 0 4 ∧ Spec.windowOf c 0 5 ∧ Spec.windowOf c 4 2 ∧ Spec.windowOf c 4 3 := by decide

theorem witness_LumaIsCompositeMinusChroma :
    second.decfReady = true ∧ second.actCc.flags.getLsbD 0 = false ∧ second.actCc.cnrLevel = 0#8 ∧
    second.actCc.ynrLevel = 0#8 ∧ Spec.inWindow second 4 2 := by decide

theorem witness_PipelineBounds : narrow.inv = true ∧ second.inv = true ∧ second.decfReady = true := by decide

/-- Outside the window, an overlay pixel (samples 29000 against 0), and a converted pixel. -/
theorem witness_HostReadsConvertedPixels :
    second.decfReady = true ∧ (4 * second.actVp.fieldWidth.toNat + 4) * 3 + 2 < 1437558 ∧
    ¬Spec.inWindow second 4 4 ∧ Spec.inWindow second 4 2 ∧ second.actCc.flags.getLsbD 4 = true ∧
    Spec.useThree second ∧ planeAt (kept second).kv 4 2 < 256 ∧
    narrow.actCc.flags.getLsbD 4 ≠ true :=
  ⟨by decide, by decide, by decide, by decide, by decide, witness_useThree, by decide, by decide⟩

theorem witness_GreyAndLumaScale :
    0 < narrow.params.w100 ∧ narrow.params.whitePoint75 = false ∧ ({ narrow.params with g := 0 }).g = 0 := by decide

theorem witness_FirstFrameIsTwoDimensional :
    narrow.prev = none ∧ (0x18#5).extractLsb' 0 3 = narrow.actCc.flags.extractLsb' 0 3 ∧
    exec .decf narrow = .next (after (exec .decf narrow)) := ⟨rfl, by decide, rfl⟩

theorem witness_OverlayChangesOverlayPixelsOnly :
    (0x08#5).extractLsb' 0 4 = second.actCc.flags.extractLsb' 0 4 ∧ second.decfReady = true ∧
    exec .decf second = .next (after (exec .decf second)) ∧ ¬Spec.inWindow second 4 3 ∧
    narrow.decfReady = true ∧ (after (exec .decf narrow)).status.frame3D = false :=
  ⟨by decide, by decide, rfl, by decide, by decide, by decide⟩

/-- A pixel of full confidence: the previous frame has the same samples. -/
theorem witness_full_confidence :
    let s := { second with prev := some { previous with raw := List.replicate 5 (List.replicate 5 29000) } }
    planeAt (kept s).kv 2 2 = 256 := by decide

theorem witness_DecfReadsOnlyTheFields :
    exec .decf narrow = .next (after (exec .decf narrow)) ∧
    (∀ k, k < narrow.actVp.fieldWidth.toNat * narrow.actVp.fieldHeight.toNat →
      { narrow with f1 := Memory.write narrow.f1 15 7#16, f2 := Memory.write narrow.f2 10 7#16 }.fieldElem false k =
        narrow.fieldElem false k) ∧
    (∀ k, k < narrow.actVp.fieldWidth.toNat * (narrow.actVp.fieldHeight.toNat - 1) →
      { narrow with f1 := Memory.write narrow.f1 15 7#16, f2 := Memory.write narrow.f2 10 7#16 }.fieldElem true k =
        narrow.fieldElem true k) := by
  refine ⟨rfl, ?_, ?_⟩
  · intro k hk
    have hk' : k < 15 := hk
    interval_cases k <;> rfl
  · intro k hk
    have hk' : k < 10 := hk
    interval_cases k <;> rfl

theorem witness_CombAndVbiAreIndependent :
    exec .decf narrow = .next (after (exec .decf narrow)) ∧ exec .vdec State.reset = .next (after (exec .vdec State.reset)) ∧
    narrow.status.fault = State.reset.status.fault ∧ narrow.vw = State.reset.vw ∧ narrow.vr = State.reset.vr :=
  ⟨rfl, rfl, rfl, rfl, rfl⟩

theorem witness_VdecLeadFlags :
    let s := words 0#24 0#24 0#24 0#24 0#24 0x88FFFF#24
    s.status.fault = false ∧ ¬Spec.noLead s.vw ∧ Spec.onLines1718 s.vw 0x88FFFF#24 := by decide

theorem witness_VdecNumbersAndType :
    let s := words 0#24 0xF1234A#24 0xF54321#24 0#24 0#24 0#24
    s.status.fault = false ∧ Spec.noLead s.vw := by decide

theorem witness_VdecChapterStopSecond :
    let s := words 0x8EE529#24 0#24 0#24 0x87FFFF#24 0x807DDD#24 0#24
    s.status.fault = false ∧ Spec.noLead s.vw := by decide

theorem witness_VdecProgrammeStatus :
    let s := words 0#24 0#24 0#24 0x8BA000#24 0#24 0#24
    let u := words 0x8DCFFF#24 0#24 0#24 0x8BA000#24 0#24 0#24
    s.status.fault = false ∧ ¬Spec.isStatus s.vw.w116 ∧ Spec.isStatus s.vw.w216 ∧ Spec.isStatus u.vw.w116 ∧
    ¬Spec.isStatus State.reset.vw.w116 ∧ ¬Spec.isStatus State.reset.vw.w216 := by decide

theorem witness_VdecUserCode :
    let s := words 0x83D1AB#24 0x80EEEE#24 0#24 0#24 0#24 0#24
    s.status.fault = false ∧ ¬Spec.noLead s.vw ∧ Spec.noLead State.reset.vw := by decide

/-- A CLV record with the marker and a stop code on line 17. -/
theorem witness_VdecDecisionAndRanges :
    let s := words 0#24 0#24 0#24 0x87FFFF#24 0x82CFFF#24 0#24
    let r := (after (exec .vdec s)).vr
    s.status.fault = false ∧ r.discType = 2#2 ∧ s.vw.w216 = 0x87FFFF#24 ∧ r.flags.getLsbD 2 = true := by decide

theorem witness_SentinelLineCodes :
    State.reset.status.fault = false ∧ ¬Spec.inLead State.reset.vr ∧
    Spec.inLead (withRecord { VbiRec.default with flags := 2#13 }).vr := by decide

theorem witness_NumericLineCodes :
    State.reset.status.fault = false ∧ ¬Spec.inLead State.reset.vr ∧ State.reset.vr.picNo = 0xFFFFFFFF#32 ∧
    Spec.inLead (withRecord { VbiRec.default with flags := 1#13 }).vr := by decide

theorem witness_StatusAndUserLineCodes :
    State.reset.status.fault = false ∧ ¬Spec.inLead State.reset.vr ∧
    Spec.inLead (withRecord { VbiRec.default with flags := 3#13 }).vr := by decide

/-- A picture number with a digit above 9 has no format. -/
theorem witness_LineCodesThatChangeNothing :
    let s := { State.reset with vw := State.reset.vw.write .w117 0xF1234A#32 }
    faulted.status.fault = true ∧ Instr.leadin ≠ .srst ∧ Spec.noFormat 0xF1234A#24 ∧
    exec .vdec s = .next (after (exec .vdec s)) := ⟨rfl, by decide, by decide, rfl⟩

theorem witness_LineCodeAgreesWithVdec :
    let s := words 0#24 0xF12345#24 0#24 0#24 0#24 0#24
    let u := { words 0x83D1AB#24 0x88FFFF#24 0#24 0#24 0#24 0#24 with vr := { VbiRec.default with flags := 1#13 } }
    s.status.fault = false ∧ decode (.lineCode 0xF12345#24) = .ok (.picno 0#1 1#3 2#4 3#4 4#4 5#4) ∧
    s.vr = VbiRec.default ∧ s.vw = Spec.alone (.picno 0#1 1#3 2#4 3#4 4#4 5#4) 0xF12345#24 ∧
    decodeTableWord 24 0xF12345 = some (.picno 0#1 1#3 2#4 3#4 4#4 5#4) ∧
    exec (.picno 0#1 1#3 2#4 3#4 4#4 5#4) s = .next (after (exec (.picno 0#1 1#3 2#4 3#4 4#4 5#4) s)) ∧
    exec .vdec s = .next (after (exec .vdec s)) ∧ (Spec.usercode 0x83D1AB#24).isSome = true ∧
    decode (.lineCode 0x83D1AB#24) = .ok (.usercode 3#4 0x1AB#12) ∧ u.vr = { VbiRec.default with flags := 1#13 } ∧
    exec .vdec u = .next (after (exec .vdec u)) := ⟨rfl, rfl, rfl, rfl, rfl, rfl, rfl, by decide, rfl, rfl, rfl⟩

theorem witness_VencPlacesWords :
    State.reset.status.fault = false ∧ (withRecord { VbiRec.default with flags := 1#13 }).vr.flags.getLsbD 0 = true ∧
    (withRecord { VbiRec.default with flags := 2#13 }).vr.flags.getLsbD 0 = false ∧
    (withRecord { VbiRec.default with flags := 2#13 }).vr.flags.getLsbD 1 = true ∧
    State.reset.vr.flags.getLsbD 1 = false ∧ Spec.inRange 79999#32 79999 ∧ ¬Spec.inRange 80000#32 79999 ∧
    Spec.inRange 0#32 79 ∧ ¬Spec.inRange 0xFFFFFFFF#32 79 := by decide

theorem witness_VencIgnoresStatusAndUserCode :
    let s := State.reset
    let u := withRecord { VbiRec.default with flags := 0x1FF8#13, sound := 0#8, userCode := 0x131AB#17 }
    u.status.fault = s.status.fault ∧ u.vw = s.vw ∧ u.vr.flags.extractLsb' 0 3 = s.vr.flags.extractLsb' 0 3 ∧
    (u.vr.discType, u.vr.picNo, u.vr.chNo, u.vr.clvHr, u.vr.clvMin, u.vr.clvSec, u.vr.clvPicNo) =
      (s.vr.discType, s.vr.picNo, s.vr.chNo, s.vr.clvHr, s.vr.clvMin, s.vr.clvSec, s.vr.clvPicNo) ∧
    exec (.venc 0#1) s = .next (after (exec (.venc 0#1) s)) := ⟨rfl, rfl, by decide, rfl, rfl⟩

theorem witness_EncodeThenDecodeRoundTrip :
    State.reset.status.fault = false ∧ VbiEncodable { VbiRec.default with flags := 1#13 } ∧
    VbiEncodable { VbiRec.default with flags := 2#13 } ∧
    VbiEncodable
      { VbiRec.default with discType := typeCav, picNo := 79999#32, chNo := 79#32, flags := if true then 4#13 else 0#13 } ∧
    VbiEncodable
      { VbiRec.default with
        discType := typeClv, chNo := absent, clvHr := 9#32, clvMin := 59#32, clvSec := absent, clvPicNo := absent } ∧
    VbiEncodable State.reset.vr :=
  ⟨rfl, .leadIn, .leadOut, .cav 79999#32 79#32 true (by decide) (.inr (by decide)),
    .clv absent 9#32 59#32 absent absent (.inl rfl) (.inr (by decide)) (.inl ⟨rfl, rfl⟩), .unknown absent (.inl rfl)⟩

theorem witness_RegisterReadAfterWrite :
    (0x22, { State.reset with cc.cnrLevel := (0xFF#32).setWidth 8 }) ∈ Spec.writtenAt State.reset 0xFF#32 ∧
    (pending (.writeReg 0x22 0xFF#32)).host = .writeReg 0x22 0xFF#32 :: [] ∧
    { pending (.writeReg 0x22 0xFF#32) with host := [] } = State.reset ∧
    (0x18, 1) ∈ Spec.rwRegisters ∧ (0x51, 17) ∈ Spec.rwRegisters ∧
    (pending (.writeReg 0x51 0xFFFFFFFF#32)).host = .writeReg (0x51, 17).1 0xFFFFFFFF#32 :: [] := by decide

theorem witness_OtherRegisterIndices :
    (0x01 ∉ Spec.rwRegisters.map Prod.fst) ∧ (0x52 ∉ Spec.rwRegisters.map Prod.fst) ∧ (0x52 ∉ Spec.roRegisters) ∧
    (0 ∉ Spec.rwRegisters.map Prod.fst) ∧ (0 ∉ Spec.roRegisters) ∧
    (pending (.writeReg 0x73 1#32)).host = .writeReg 0x73 1#32 :: [] := by decide

/-- Each row of the two maps has an index of its own, and the writable rows are those of `Spec.rwRegisters`. -/
theorem witness_register_rows :
    (Spec.writtenAt State.reset 0#32).map Prod.fst = Spec.rwRegisters.map Prod.fst ∧
    ((Spec.readsAt State.reset).map Prod.fst).Nodup ∧ (Spec.readsAt State.reset).length = 49 := by decide

theorem witness_BufferReadAfterWrite :
    BufSpace.f2 ≠ .rgb ∧ 239592 < 239593 ∧
    (pending (.writeBuf .f2 239592 5#16)).host = .writeBuf .f2 239592 5#16 :: [] ∧
    (pending (.writeBuf .f1 239593 5#16)).host = .writeBuf .f1 239593 5#16 :: [] ∧
    (pending (.readReg 1)).host = .readReg 1 :: [] ∧ (pending (.readBuf .rgb 0)).host = .readBuf .rgb 0 :: [] := by decide

theorem witness_ActiveConfigurationWriters :
    let s := { staged 5#16 1#16 2#16 3#16 0#16 1#16 with host := [.writeReg 0 1#32] }
    step s = .next (after (step s)) ∧ (after (step s)).actVp ≠ s.actVp := ⟨rfl, by decide⟩

theorem witness_FrameStaysUntilReplaced :
    let s := { after (exec .decf narrow) with host := [.writeReg 0 3#32] }
    step s = .next (after (step s)) ∧
    ∀ rest, s.host ≠ .resetInput :: rest ∧ s.host ≠ .writeReg 0 0x00000001#32 :: rest ∧
      s.host ≠ .writeReg 0 0x00000002#32 :: rest ∧ s.host ≠ .writeReg 0 0x0000000F#32 :: rest :=
  ⟨rfl, fun rest => ⟨by simp, by simp, by simp, by simp⟩⟩

theorem witness_StepKeepsInvariant :
    let s := { second with host := [.writeReg 0 2#32] }
    s.inv = true ∧ step s = .next (after (step s)) := ⟨by decide, rfl⟩

end Sys2Proof.Tests
end

section
/-! PROOFS. The step, dispatch and what `withFetchWord` presents (00_scope.md R2, 10_state.md R22, 40_commands.md R110;
logs 1, 2, 3). -/

namespace Sys2Proof.Proofs

open Sys2Proof.Machine

/-- The oldest pending event takes place on the state without it (log 1). -/
theorem step_of_host_cons {s : State} {e : HostEvent} {rest : List HostEvent} (h : s.host = e :: rest) :
    step s = hostEvent e { s with host := rest } := by
  unfold step nextEvent
  rw [h]

/-- Index 0 is `CMD`: a write there is command dispatch (10_state.md R22). -/
theorem hostEvent_writeReg_zero (c : Word) (s : State) : hostEvent (.writeReg 0 c) s = commandWrite c s := rfl

/-- A 32-bit table word is read by the command decoder. -/
theorem decodeTableWord_command (w : Nat) :
    decodeTableWord 32 w = (decode (.command (BitVec.ofNat 32 w))).toOption := rfl

theorem except_toOption_eq_some_iff {ε α : Type} {x : Except ε α} {a : α} : x.toOption = some a ↔ x = .ok a := by
  cases x <;> simp [Except.toOption]

/-- The line on which the model places a line code is the one the statements name for its format (44 R211). -/
theorem vbiWords_alone_eq_spec (i : Instr) (c : LineWord) : VbiWords.alone i c = Spec.alone i c := by
  cases i <;> rfl

/-- The word that `withFetchWord` presents for a line code is `VDEC` (30 R83). -/
theorem commandWrite_vdec (s : State) : commandWrite 0x00000003#32 s = exec .vdec s :=
  commandWrite_eq_exec rfl

/-- A pending write of `CMD` with a word that decodes runs its instruction. -/
theorem step_of_command_write {s : State} {c : Word} {rest : List HostEvent} {i : Instr}
    (hhost : s.host = .writeReg 0 c :: rest) (hdecode : decode (.command c) = .ok i) :
    step s = exec i { s with host := rest } := by
  rw [step_of_host_cons hhost, hostEvent_writeReg_zero, commandWrite_eq_exec hdecode]

theorem step_withFetchWord_command (s : State) {w : Nat} {i : Instr} (h : decodeTableWord 32 w = some i) :
    step (s.withFetchWord 32 w) = exec i s := by
  have hdecode : decode (.command (BitVec.ofNat 32 w)) = .ok i := by
    rwa [decodeTableWord_command, except_toOption_eq_some_iff] at h
  rw [State.withFetchWord_command, step_presentCommand, commandWrite_eq_exec hdecode]

theorem step_withFetchWord_lineCode (s : State) {w : Nat} {i : Instr} (h : decodeTableWord 24 w = some i) :
    step (s.withFetchWord 24 w) = exec .vdec { s with vw := Spec.alone i (BitVec.ofNat 24 w) } := by
  rw [State.withFetchWord_lineCode h, step_presentCommand, commandWrite_vdec, vbiWords_alone_eq_spec]

/-- Settles O6: a step is `exec` of the command the host writes; for a line code, the `VDEC` that reads it. -/
theorem stepRunsDecodedInstruction : Obligations.StepRunsDecodedInstruction :=
  ⟨fun _ _ _ _ hhost hdecode => step_of_command_write hhost hdecode,
    fun s _ _ h => step_withFetchWord_command s h,
    fun s _ _ h => step_withFetchWord_lineCode s h⟩

end Sys2Proof.Proofs
end

section
/-! PROOFS. What an instruction, a host event and a step can do to the state, said once (40_commands.md R110, R111;
20_memory.md R60), so that the rules over one step are short case splits. -/

namespace Sys2Proof.Proofs

open Sys2Proof.Machine

/-! ### Command words (30_encoding.md R80 to R85) -/

/-- A command word is its reserved bits, its operand bit and its opcode, from the most significant bit (30 R80). -/
theorem commandWord_eq_fields (c : Word) :
    c = c.extractLsb' 9 23 ++ c.extractLsb' 8 1 ++ c.extractLsb' 0 8 := by
  rw [BitVec.extractLsb'_append_extractLsb'_eq_extractLsb' (by rfl),
    BitVec.extractLsb'_append_extractLsb'_eq_extractLsb' (by rfl), BitVec.extractLsb'_eq_self]

/-- A command without operand decodes only with bit 8 clear (30 R85). -/
theorem plainCommand_eq_ok {p : BitVec 1} {i j : Instr} : plainCommand p i = .ok j ↔ p = 0#1 ∧ i = j := by
  unfold plainCommand
  split <;> simp_all

/-- A word is decoded as a command only if it is that command's encoding. -/
theorem encode_of_decodeCommand {c : Word} {i : Instr} (h : decodeCommand c = .ok i) : encode i = .command c := by
  rw [commandWord_eq_fields c]
  simp only [decodeCommand] at h
  generalize c.extractLsb' 0 8 = op, c.extractLsb' 8 1 = p, c.extractLsb' 9 23 = rsv at h ⊢
  split at h
  · cases h
  rename_i hrsv
  obtain rfl : rsv = 0#23 := not_not.mp hrsv
  split at h
  · subst op; obtain ⟨rfl, rfl⟩ := plainCommand_eq_ok.mp h; rfl
  split at h
  · subst op; obtain ⟨rfl, rfl⟩ := plainCommand_eq_ok.mp h; rfl
  split at h
  · subst op; obtain ⟨rfl, rfl⟩ := plainCommand_eq_ok.mp h; rfl
  split at h
  · subst op; obtain ⟨rfl, rfl⟩ := plainCommand_eq_ok.mp h; rfl
  split at h
  · subst op; cases h; rfl
  split at h
  · subst op; obtain ⟨rfl, rfl⟩ := plainCommand_eq_ok.mp h; rfl
  · cases h

/-- Only `0x0000000F` is the `SRST` word (30 R83). -/
theorem command_eq_srst {c : Word} (h : decode (.command c) = .ok .srst) : c = 0x0000000F#32 :=
  (CodeWord.command.inj (encode_of_decodeCommand h)).symm

/-- Only `0x00000001` is the `CFG` word (30 R83). -/
theorem command_eq_cfg {c : Word} (h : decode (.command c) = .ok .cfg) : c = 0x00000001#32 :=
  (CodeWord.command.inj (encode_of_decodeCommand h)).symm

/-! ### The register map and the buffers (10_state.md R27, R28; 20_memory.md R61) -/

/-- Every row of the map stands at its register's index. -/
theorem registerMap_index : ∀ e ∈ registerMap, e.1 = e.2.index := by decide

/-- The map has a register at an index exactly when the index is that register's. -/
theorem regAt_eq_some_iff {k : Nat} {r : RegName} : regAt k = some r ↔ k = r.index :=
  ⟨fun h => registerMap_index _ (regAt_eq_some h), fun h => h ▸ regAt_index r⟩

/-- Two registers never share an index. -/
theorem index_injective {q r : RegName} (h : q.index = r.index) : q = r :=
  Option.some.inj ((regAt_index q).symm.trans (h ▸ regAt_index r))

/-- An index is a register's or it is reserved. -/
theorem index_cases (k : Nat) : (∃ r : RegName, k = r.index) ∨ regAt k = none := by
  cases h : regAt k with
  | none => exact .inr rfl
  | some r => exact .inl ⟨r, regAt_eq_some_iff.mp h⟩

@[simp] theorem readReg_index (s : State) (r : RegName) : s.readReg r.index = s.readNamed r := by
  unfold State.readReg
  rw [regAt_index]

theorem readReg_reserved (s : State) {k : Nat} (h : regAt k = none) : s.readReg k = 0#32 := by
  unfold State.readReg
  rw [h]

/-- A buffer write changes nothing but the two field buffers (20 R61). -/
theorem writeBuf_frame (s : State) (sp : BufSpace) (k : Nat) (v : Sample) :
    s.writeBuf sp k v = { s with f1 := (s.writeBuf sp k v).f1, f2 := (s.writeBuf sp k v).f2 } := by
  rcases State.writeBuf_cases s sp k v with h | ⟨-, -, h⟩ | ⟨-, -, h⟩ <;> rw [h]

/-! ### What an instruction can do -/

/-- What an instruction can do to a state: nothing while a fault is held unless it is `SRST` (40 R111), else its own
effect (40 R112 to R119; 41 R130; 44 R210; 45 R240). Of a line code it says only that the record alone is written. -/
inductive ExecEffect (s : State) : Instr → State → Prop where
  | refused {i : Instr} (hfault : s.status.fault = true) : ExecEffect s i s
  | nop (hfault : s.status.fault = false) : ExecEffect s .nop s
  | cfgRaised (e : ErrCode) (info : Word) (hfault : s.status.fault = false)
      (hcheck : cfgViolation s.vp = some (e, info)) : ExecEffect s .cfg (s.raise e info)
  | cfgLatched (hfault : s.status.fault = false) (hcheck : cfgViolation s.vp = none) :
      ExecEffect s .cfg s.latchConfig
  | decfRaised (e : ErrCode) (info : Word) (hfault : s.status.fault = false)
      (hcheck : decfViolation s.beginDecf = some (e, info)) : ExecEffect s .decf (s.beginDecf.raise e info)
  | decfCompleted (hfault : s.status.fault = false) (hcheck : decfViolation s.beginDecf = none) :
      ExecEffect s .decf s.beginDecf.completeDecf
  | vdec (hfault : s.status.fault = false) : ExecEffect s .vdec { s with vr := vdecRecord s.vw }
  | venc (p : BitVec 1) (hfault : s.status.fault = false) :
      ExecEffect s (.venc p) { s with vw := vencWords s.vr p }
  | srst : ExecEffect s .srst s.powerReset
  | lineCode {i : Instr} {w : LineWord} (r : VbiRec) (hfault : s.status.fault = false)
      (hline : encode i = .lineCode w) : ExecEffect s i { s with vr := r }

/-- A command under the refusal rule is refused, or runs outside the fault state. -/
theorem unlessFault_effect {i : Instr} {s t : State} {run : State → Result} (h : unlessFault s run = .next t)
    (hrun : s.status.fault = false → run s = .next t → ExecEffect s i t) : ExecEffect s i t := by
  rcases unlessFault_eq_next.mp h with ⟨hfault, rfl⟩ | ⟨hfault, hnext⟩
  · exact .refused hfault
  · exact hrun hfault hnext

/-- A line code rewrites the record or, under fault, is refused. -/
theorem recordStep_effect {i : Instr} {w : LineWord} {s t : State} {f : VbiRec → VbiRec}
    (hline : encode i = .lineCode w) (h : recordStep s f = .next t) : ExecEffect s i t :=
  unlessFault_effect h fun hfault hnext => by cases hnext; exact .lineCode _ hfault hline

theorem execCfg_effect {s t : State} (h : execCfg s = .next t) : ExecEffect s .cfg t :=
  unlessFault_effect h fun hfault _ => by
    rw [execCfg_eq hfault] at h
    split at h <;> rename_i hcheck <;> cases h
    · exact .cfgRaised _ _ hfault hcheck
    · exact .cfgLatched hfault hcheck

theorem execDecf_effect {s t : State} (h : execDecf s = .next t) : ExecEffect s .decf t :=
  unlessFault_effect h fun hfault _ => by
    rw [execDecf_eq hfault] at h
    split at h <;> rename_i hcheck <;> cases h
    · exact .decfRaised _ _ hfault hcheck
    · exact .decfCompleted hfault hcheck

theorem execVdec_effect {s t : State} (h : execVdec s = .next t) : ExecEffect s .vdec t := by
  unfold execVdec at h
  exact unlessFault_effect h fun hfault hnext => by cases hnext; exact .vdec hfault

theorem execVenc_effect {p : BitVec 1} {s t : State} (h : execVenc p s = .next t) : ExecEffect s (.venc p) t := by
  unfold execVenc at h
  exact unlessFault_effect h fun hfault hnext => by cases hnext; exact .venc p hfault

/-- Every answer of an instruction is one of the effects. -/
theorem exec_effect {i : Instr} {s t : State} (h : exec i s = .next t) : ExecEffect s i t := by
  cases i with
  | nop => exact unlessFault_effect h fun hfault hnext => by cases hnext; exact .nop hfault
  | cfg => exact execCfg_effect h
  | decf => exact execDecf_effect h
  | vdec => exact execVdec_effect h
  | venc p => exact execVenc_effect h
  | srst =>
    cases h
    exact .srst
  | leadin | leadout | stop | clvmark | picno | timecode | chapter | clvsec | statusCxOn | statusCxOff | usercode =>
    simp only [exec, execLeadin, execLeadout, execStop, execClvmark, execPicno, execTimecode, execChapter, execClvsec,
      execStatusCxOn, execStatusCxOff, execUsercode] at h
    exact recordStep_effect rfl h

/-! ### What a host event and a step can do -/

/-- What an event can do to a state (20 R60, R65, R70; 40 R110, R111; 70 R290). -/
inductive EventEffect (s : State) : HostEvent → State → Prop where
  | registerWrite (r : RegName) (v : Word) (hcmd : r ≠ .cmd) :
      EventEffect s (.writeReg r.index v) (s.writeNamed r v)
  | discarded {k : Nat} (v : Word) (hreserved : regAt k = none) : EventEffect s (.writeReg k v) s
  | registerRead (k : Nat) : EventEffect s (.readReg k) { s with portData := s.readReg k }
  | bufferWrite (sp : BufSpace) (k : Nat) (v : Sample) : EventEffect s (.writeBuf sp k v) (s.writeBuf sp k v)
  | bufferRead (sp : BufSpace) (k : Nat) :
      EventEffect s (.readBuf sp k) { s with portData := (s.readBuf sp k).setWidth 32 }
  | resetInput : EventEffect s .resetInput s.powerReset
  | command {c : Word} {i : Instr} {t : State} (hdecode : decode (.command c) = .ok i) (heffect : ExecEffect s i t) :
      EventEffect s (.writeReg 0 c) t
  | illegalRefused (c : Word) (hfault : s.status.fault = true) : EventEffect s (.writeReg 0 c) s
  | illegalRaised (c : Word) (hfault : s.status.fault = false) :
      EventEffect s (.writeReg 0 c) (s.raise .badCommand c)

/-- A write of `CMD` runs the decoded command, or is refused, or raises `BadCommand` (40 R110, R111). -/
theorem commandWrite_effect {c : Word} {s t : State} (h : commandWrite c s = .next t) :
    EventEffect s (.writeReg 0 c) t := by
  unfold commandWrite at h
  split at h
  · rename_i i hdecode
    exact .command hdecode (exec_effect h)
  · rcases unlessFault_eq_next.mp h with ⟨hfault, rfl⟩ | ⟨hfault, hrun⟩
    · exact .illegalRefused c hfault
    · cases hrun
      exact .illegalRaised c hfault

/-- A write of a register other than `CMD` stores into it, if it is writable. -/
theorem hostEvent_writeReg_index (s : State) {r : RegName} (v : Word) (h : r ≠ .cmd) :
    hostEvent (.writeReg r.index v) s = .next (s.writeNamed r v) := by
  unfold hostEvent
  dsimp only
  rw [regAt_index]
  cases r with
  | cmd => exact absurd rfl h
  | _ => rfl

/-- A write at a reserved index is discarded. -/
theorem hostEvent_writeReg_reserved (s : State) {k : Nat} (v : Word) (h : regAt k = none) :
    hostEvent (.writeReg k v) s = .next s := by
  unfold hostEvent
  dsimp only
  rw [h]

/-- Every answer of an event is one of the effects. -/
theorem hostEvent_effect {e : HostEvent} {s t : State} (h : hostEvent e s = .next t) : EventEffect s e t := by
  cases e with
  | writeReg k v =>
    rcases index_cases k with ⟨r, rfl⟩ | hreserved
    · by_cases hcmd : r = .cmd
      · subst hcmd
        exact commandWrite_effect h
      · cases (hostEvent_writeReg_index s v hcmd).symm.trans h
        exact .registerWrite r v hcmd
    · cases (hostEvent_writeReg_reserved s v hreserved).symm.trans h
      exact .discarded v hreserved
  | readReg k => cases h; exact .registerRead k
  | writeBuf sp k v => cases h; exact .bufferWrite sp k v
  | readBuf sp k => cases h; exact .bufferRead sp k
  | resetInput => cases h; exact .resetInput

/-- A step is idle or is the effect of the oldest pending event on the state without it (log 1, 5). -/
theorem step_cases {s t : State} (h : step s = .next t) :
    (s.host = [] ∧ t = s) ∨ ∃ e rest, s.host = e :: rest ∧ EventEffect { s with host := rest } e t := by
  cases hhost : s.host with
  | nil =>
    unfold step nextEvent at h
    rw [hhost] at h
    cases h
    exact .inl ⟨rfl, rfl⟩
  | cons e rest =>
    rw [step_of_host_cons hhost] at h
    exact .inr ⟨e, rest, rfl, hostEvent_effect h⟩

end Sys2Proof.Proofs
end

section
/-! PROOFS. The invariant of LDCORE (10_state.md R23, R24, R49; 40_commands.md R116, R117; 41_comb_separation.md R152;
43_rgb_xform.md R199; 20_memory.md R74), operation by operation and then over a step. -/

namespace Sys2Proof.Proofs

open Sys2Proof.Machine

/-- The five parts of the invariant. -/
theorem inv_iff {s : State} :
    s.inv = true ↔ s.buffersWf = true ∧ s.errorsWf = true ∧ s.configWf = true ∧ s.prevWf = true ∧
      s.frameWf = true := by
  simp only [State.inv, Bool.and_eq_true, and_assoc]

theorem buffersWf_iff {s : State} :
    s.buffersWf = true ↔ Memory.wf Config.fbufCap s.f1 = true ∧ Memory.wf Config.fbufCap s.f2 = true ∧
      Memory.wf Config.rgbCap s.rgb = true := by
  simp only [State.buffersWf, Bool.and_eq_true, and_assoc]

/-- With a configuration the active parameters pass the checks of `CFG`. -/
theorem configWf_of_configured {s : State} (h : s.status.configured = true) :
    s.configWf = true ↔ cfgViolation s.actVp = none := by
  simp only [State.configWf, h, if_true, Option.isNone_iff_eq_none]

/-- Without a valid frame nothing is asked of it. -/
theorem frameWf_of_not_frameValid {s : State} (h : s.status.frameValid = false) : s.frameWf = true := by
  simp only [State.frameWf, h, Bool.false_eq_true, if_false]

theorem prevWf_of_some {s : State} {f : FrameBuffer} (h : s.prev = some f) :
    s.prevWf = true ↔ f.geom = s.actVp.geometry ∧ legalPhase f.p1 = true ∧ legalPhase f.p2 = true ∧
      rawInRange f.raw = true := by
  simp only [State.prevWf, h, Bool.and_eq_true, beq_iff_eq, and_assoc]

theorem prevWf_of_none {s : State} (h : s.prev = none) : s.prevWf = true := by
  simp only [State.prevWf, h]

/-! ### Writes of the host and of the record -/

theorem inv_writeNamed (s : State) (r : RegName) (v : Word) : (s.writeNamed r v).inv = s.inv := by
  cases r <;> rfl

theorem inv_writeBuf {s : State} (sp : BufSpace) (k : Nat) (v : Sample) (h : s.inv = true) :
    (s.writeBuf sp k v).inv = true := by
  obtain ⟨hbuf, herr, hconf, hprev, hframe⟩ := inv_iff.mp h
  obtain ⟨h1, h2, h3⟩ := buffersWf_iff.mp hbuf
  obtain ⟨h1', h2', -⟩ := State.writeBuf_wf s sp k v h1 h2 h3
  rw [writeBuf_frame]
  exact inv_iff.mpr ⟨buffersWf_iff.mpr ⟨h1', h2', h3⟩, herr, hconf, hprev, hframe⟩

/-! ### Fatal entry and reset -/

/-- Every error has a code in 1..7 (60 R262). -/
theorem errorsWf_raise (s : State) (e : ErrCode) (info : Word) : (s.raise e info).errorsWf = true := by
  cases e <;> rfl

theorem inv_raise {s : State} (e : ErrCode) (info : Word) (h : s.inv = true) : (s.raise e info).inv = true := by
  obtain ⟨hbuf, -, hconf, hprev, hframe⟩ := inv_iff.mp h
  exact inv_iff.mpr ⟨hbuf, errorsWf_raise s e info, hconf, hprev, hframe⟩

theorem inv_powerReset (s : State) : s.powerReset.inv = true := rfl

/-! ### `CFG` -/

/-- What `CFG` keeps of `PREV` has the latched geometry (40 R117). -/
theorem prevWf_latchConfig {s : State} (h : s.prevWf = true) : s.latchConfig.prevWf = true := by
  cases hkept : s.latchConfig.prev with
  | none => exact prevWf_of_none hkept
  | some f =>
    obtain ⟨hprev, hgeom⟩ := keepPrev_eq_some.mp hkept
    obtain ⟨-, hp1, hp2, hraw⟩ := (prevWf_of_some hprev).mp h
    exact (prevWf_of_some hkept).mpr ⟨hgeom, hp1, hp2, hraw⟩

theorem inv_latchConfig {s : State} (h : s.inv = true) (hcheck : cfgViolation s.vp = none) :
    s.latchConfig.inv = true := by
  obtain ⟨hbuf, herr, -, hprev, -⟩ := inv_iff.mp h
  exact inv_iff.mpr ⟨hbuf, herr, (configWf_of_configured rfl).mpr hcheck, prevWf_latchConfig hprev,
    frameWf_of_not_frameValid rfl⟩

/-! ### `DECF` -/

theorem configWf_beginDecf {s : State} (h : s.configWf = true) : s.beginDecf.configWf = true := by
  cases hc : s.status.configured with
  | true => exact (configWf_of_configured (s := s.beginDecf) hc).mpr ((configWf_of_configured hc).mp h)
  | false => simp_all [State.configWf]

theorem inv_beginDecf {s : State} (h : s.inv = true) : s.beginDecf.inv = true := by
  obtain ⟨hbuf, herr, hconf, hprev, -⟩ := inv_iff.mp h
  exact inv_iff.mpr ⟨hbuf, herr, configWf_beginDecf hconf, hprev, frameWf_of_not_frameValid rfl⟩

/-- A plane of 16-bit values is in range. -/
theorem rawInRange_planeTabulate (h w : Nat) {f : Nat → Nat → Int} (hf : ∀ y x, 0 ≤ f y x ∧ f y x ≤ 65535) :
    rawInRange (planeTabulate h w f) = true := by
  simp [rawInRange, planeTabulate, hf]

/-- A sample is a 16-bit value as an integer too. -/
theorem sample_range (v : Sample) : (0 : Int) ≤ (v.toNat : Int) ∧ (v.toNat : Int) ≤ 65535 := by
  have := v.isLt
  omega

/-- The samples that `DECF` assembles are those of the fields (41 R132). -/
theorem rawInRange_builtFrame (s : State) : rawInRange s.builtFrame.raw = true :=
  rawInRange_planeTabulate _ _ fun y x => by split <;> exact sample_range _

/-- The dimensions that `CFG` accepts fit the frame height's register and the frame buffer (40 R116; 10 R47). -/
theorem frame_fits {s : State} (h : cfgViolation s.actVp = none) :
    s.params.frameHeight < 2 ^ 16 ∧ s.params.frameHeight * s.params.width * 3 ≤ Config.rgbCap := by
  obtain ⟨⟨-, hw⟩, ⟨-, hh⟩, -⟩ := cfgViolation_eq_none.mp h
  have hheight : s.params.frameHeight ≤ 526 := hh
  have hsize : s.params.frameHeight * s.params.width ≤ 526 * 911 := Nat.mul_le_mul hheight hw
  exact ⟨by omega, by unfold Config.rgbCap; omega⟩

theorem frHeight_completeDecf {s : State} (h : cfgViolation s.actVp = none) :
    s.completeDecf.frHeight.toNat = s.params.frameHeight := by
  rw [State.completeDecf_frHeight, BitVec.toNat_ofNat, Nat.mod_eq_of_lt (frame_fits h).1]

theorem buffersWf_completeDecf {s : State} (hbuf : s.buffersWf = true) (h : cfgViolation s.actVp = none) :
    s.completeDecf.buffersWf = true := by
  obtain ⟨h1, h2, -⟩ := buffersWf_iff.mp hbuf
  exact buffersWf_iff.mpr ⟨h1, h2, Memory.wf_tabulate _ (frame_fits h).2⟩

/-- A completed frame has the active dimensions and fills exactly its elements of `RGB` (43 R199). -/
theorem frameWf_completeDecf {s : State} (h : cfgViolation s.actVp = none) : s.completeDecf.frameWf = true := by
  have hheight := frHeight_completeDecf h
  have hlength : s.completeDecf.rgb.length = s.params.frameHeight * s.params.width * 3 := Memory.length_tabulate _ _
  simp only [State.frameWf, State.completeDecf_status, if_true, State.completeDecf_prev, Option.isSome_some,
    State.completeDecf_frWidth, State.completeDecf_actVp, beq_self_eq_true, Bool.and_eq_true, decide_eq_true_eq,
    hheight, hlength, true_and]
  exact ⟨rfl, rfl⟩

/-- A `DECF` that passes its checks keeps the invariant (41 R152). -/
theorem inv_completeDecf {s : State} (h : s.inv = true) (hcheck : decfViolation s = none) :
    s.completeDecf.inv = true := by
  obtain ⟨hbuf, herr, hconf, -, -⟩ := inv_iff.mp h
  obtain ⟨hconfigured, -, -, -, hp1, hp2⟩ := decfViolation_eq_none.mp hcheck
  have hlegal : cfgViolation s.actVp = none := (configWf_of_configured hconfigured).mp hconf
  exact inv_iff.mpr ⟨buffersWf_completeDecf hbuf hlegal, herr,
    (configWf_of_configured (s := s.completeDecf) hconfigured).mpr hlegal,
    (prevWf_of_some rfl).mpr ⟨rfl, hp1, hp2, rawInRange_builtFrame s⟩, frameWf_completeDecf hlegal⟩

/-! ### A step -/

theorem inv_of_execEffect {i : Instr} {s t : State} (hi : s.inv = true) (h : ExecEffect s i t) : t.inv = true := by
  cases h with
  | refused | nop | vdec | venc | lineCode => exact hi
  | cfgRaised e info => exact inv_raise e info hi
  | cfgLatched _ hcheck => exact inv_latchConfig hi hcheck
  | decfRaised e info => exact inv_raise e info (inv_beginDecf hi)
  | decfCompleted _ hcheck => exact inv_completeDecf (inv_beginDecf hi) hcheck
  | srst => exact inv_powerReset s

theorem inv_of_eventEffect {e : HostEvent} {s t : State} (hi : s.inv = true) (h : EventEffect s e t) :
    t.inv = true := by
  cases h with
  | registerWrite r v => rw [inv_writeNamed]; exact hi
  | discarded | registerRead | bufferRead | illegalRefused => exact hi
  | bufferWrite sp k v => exact inv_writeBuf sp k v hi
  | resetInput => exact inv_powerReset s
  | command _ heffect => exact inv_of_execEffect hi heffect
  | illegalRaised c => exact inv_raise _ c hi

/-- Settles O60: an idle step changes nothing, and every effect of an event keeps the invariant. -/
theorem stepKeepsInvariant : Obligations.StepKeepsInvariant := by
  intro s t hi h
  rcases step_cases h with ⟨-, rfl⟩ | ⟨e, rest, -, heffect⟩
  · exact hi
  · exact inv_of_eventEffect (s := { s with host := rest }) hi heffect

/-- Settles O59: the state after reset is empty, without a fault, a configuration or a frame. -/
theorem resetSatisfiesInvariant : Obligations.ResetSatisfiesInvariant := by
  unfold Obligations.ResetSatisfiesInvariant
  exact inv_iff.mpr ⟨buffersWf_iff.mpr State.reset_buffers_wf, rfl, rfl, prevWf_of_none rfl,
    frameWf_of_not_frameValid rfl⟩

end Sys2Proof.Proofs
end

section
/-! PROOFS. The fault state, the writers of the active configuration, reset, `CFG`, and the two halves of the block that
do not read each other (10_state.md R26, R28, R31, R35, R38, R52; 60_exceptions.md R273). -/

namespace Sys2Proof.Proofs

open Sys2Proof.Machine

/-! ### The fault and the active configuration over a step -/

/-- Under fault an instruction other than `SRST` changes nothing (40 R111). -/
theorem eq_of_execEffect_of_fault {i : Instr} {s t : State} (hfault : s.status.fault = true)
    (h : ExecEffect s i t) : t = s ∨ i = .srst := by
  cases h with
  | refused => exact .inl rfl
  | srst => exact .inr rfl
  | nop h | cfgRaised _ _ h | cfgLatched h | decfRaised _ _ h | decfCompleted h | vdec h | venc _ h | lineCode _ h =>
    exact absurd (h.symm.trans hfault) Bool.false_ne_true

/-- Under fault an event other than reset and the write of `SRST` keeps `STATUS` and `ERRINFO`. -/
theorem fault_kept_of_eventEffect {e : HostEvent} {s t : State} (hfault : s.status.fault = true)
    (h : EventEffect s e t) :
    (t.status = s.status ∧ t.errInfo = s.errInfo) ∨ e = .resetInput ∨ e = .writeReg 0 0x0000000F#32 := by
  cases h with
  | registerWrite r v => exact .inl ⟨State.writeNamed_status s r v, State.writeNamed_errInfo s r v⟩
  | discarded | registerRead | bufferRead | illegalRefused => exact .inl ⟨rfl, rfl⟩
  | bufferWrite =>
    rw [writeBuf_frame]
    exact .inl ⟨rfl, rfl⟩
  | resetInput => exact .inr (.inl rfl)
  | command hdecode heffect =>
    rcases eq_of_execEffect_of_fault hfault heffect with rfl | rfl
    · exact .inl ⟨rfl, rfl⟩
    · exact .inr (.inr (by rw [command_eq_srst hdecode]))
  | illegalRaised _ h => exact absurd (h.symm.trans hfault) Bool.false_ne_true

/-- Settles O9, by the effects of an event: of those with a fault held, only reset and `SRST` write `STATUS`. -/
theorem faultStaysUntilReset : Obligations.FaultStaysUntilReset := by
  intro s t hfault h
  rcases step_cases h with ⟨-, rfl⟩ | ⟨e, rest, hhost, heffect⟩
  · exact .inl ⟨hfault, rfl, rfl⟩
  · rcases fault_kept_of_eventEffect (s := { s with host := rest }) hfault heffect with ⟨hstatus, herr⟩ | rfl | rfl
    · exact .inl ⟨by rw [hstatus]; exact hfault, by rw [hstatus], herr⟩
    · exact .inr ⟨rest, .inl hhost⟩
    · exact .inr ⟨rest, .inr hhost⟩

/-- The instructions that write the active configuration are `CFG` and `SRST` (10 R31, R35). -/
theorem active_kept_of_execEffect {i : Instr} {s t : State} (h : ExecEffect s i t) :
    (t.actVp = s.actVp ∧ t.actCc = s.actCc) ∨ i = .cfg ∨ i = .srst := by
  cases h with
  | refused | nop | cfgRaised | decfRaised | decfCompleted | vdec | venc | lineCode => exact .inl ⟨rfl, rfl⟩
  | cfgLatched => exact .inr (.inl rfl)
  | srst => exact .inr (.inr rfl)

theorem active_kept_of_eventEffect {e : HostEvent} {s t : State} (h : EventEffect s e t) :
    (t.actVp = s.actVp ∧ t.actCc = s.actCc) ∨ e = .resetInput ∨ e = .writeReg 0 0x00000001#32 ∨
      e = .writeReg 0 0x0000000F#32 := by
  cases h with
  | registerWrite r v => exact .inl ⟨State.writeNamed_actVp s r v, State.writeNamed_actCc s r v⟩
  | discarded | registerRead | bufferRead | illegalRefused | illegalRaised => exact .inl ⟨rfl, rfl⟩
  | bufferWrite =>
    rw [writeBuf_frame]
    exact .inl ⟨rfl, rfl⟩
  | resetInput => exact .inr (.inl rfl)
  | command hdecode heffect =>
    rcases active_kept_of_execEffect heffect with hkept | rfl | rfl
    · exact .inl hkept
    · exact .inr (.inr (.inl (by rw [command_eq_cfg hdecode])))
    · exact .inr (.inr (.inr (by rw [command_eq_srst hdecode])))

/-- Settles O57, by the effects of an event. -/
theorem activeConfigurationWriters : Obligations.ActiveConfigurationWriters := by
  intro s t h hchanged
  rcases step_cases h with ⟨-, rfl⟩ | ⟨e, rest, hhost, heffect⟩
  · exact (hchanged.elim (· rfl) (· rfl)).elim
  · rcases active_kept_of_eventEffect heffect with ⟨hvp, hcc⟩ | rfl | rfl | rfl
    · exact (hchanged.elim (· hvp) (· hcc)).elim
    · exact ⟨rest, .inl hhost⟩
    · exact ⟨rest, .inr (.inl hhost)⟩
    · exact ⟨rest, .inr (.inr hhost)⟩

/-! ### `CFG` -/

/-- A `CFG` that ends without a fault has latched (40 R114, R115). -/
theorem eq_latchConfig_of_exec_cfg {s t : State} (h : exec .cfg s = .next t) (hfault : t.status.fault = false) :
    t = s.latchConfig := by
  cases execCfg_effect h with
  | refused htrue => exact absurd (hfault.symm.trans htrue) Bool.false_ne_true
  | cfgRaised => exact absurd hfault (by simp)
  | cfgLatched => rfl
  | lineCode _ _ hline => cases hline

/-- Settles O14: the latch copies the staged registers, and the two blocks of the map have the same rows. -/
theorem activeRegistersReadAsStaged : Obligations.ActiveRegistersReadAsStaged := by
  intro s t h hfault
  obtain rfl := eq_latchConfig_of_exec_cfg h hfault
  constructor
  · intro k hk
    interval_cases k <;> rfl
  · intro k hk
    interval_cases k <;> rfl

/-! ### Reset -/

/-- The reset value of a register (10 R52). -/
theorem reset_readNamed (r : RegName) :
    State.reset.readNamed r =
      if 0x49 ≤ r.index ∧ r.index ≤ 0x4E then 0xFFFFFFFF#32 else if r.index = 0x50 then 0x000000BB#32 else 0#32 := by
  cases r with
  | vp q | cc q | vw q | vr q | actVp q | actCc q => cases q <;> rfl
  | _ => rfl

/-- `SRST` leaves every register at its reset value (40 R119). -/
theorem powerReset_readNamed (s : State) (r : RegName) : s.powerReset.readNamed r = State.reset.readNamed r := by
  cases r <;> rfl

theorem powerReset_readReg (s : State) (k : Nat) : s.powerReset.readReg k = State.reset.readReg k := by
  unfold State.readReg
  split
  · exact powerReset_readNamed s _
  · rfl

/-- No index of the record is reserved (10 R28). -/
theorem regAt_record_ne_none {k : Nat} (hlo : 0x48 ≤ k) (hhi : k ≤ 0x51) : regAt k ≠ none := by
  interval_cases k <;> decide

theorem reset_readReg (k : Nat) :
    State.reset.readReg k =
      if 0x49 ≤ k ∧ k ≤ 0x4E then 0xFFFFFFFF#32 else if k = 0x50 then 0x000000BB#32 else 0#32 := by
  rcases index_cases k with ⟨r, rfl⟩ | hreserved
  · rw [readReg_index, reset_readNamed]
  · have houtside : ¬(0x48 ≤ k ∧ k ≤ 0x51) := fun h => regAt_record_ne_none h.1 h.2 hreserved
    rw [readReg_reserved _ hreserved, if_neg (by omega), if_neg (by omega)]

/-- Settles O16: each register of the map has its reset value, and a reserved index reads 0. -/
theorem registersReadAfterReset : Obligations.RegistersReadAfterReset := by
  rintro t (rfl | ⟨s, h⟩)
  · exact ⟨rfl, reset_readReg⟩
  · cases h
    exact ⟨rfl, fun k => (powerReset_readReg s k).trans (reset_readReg k)⟩

/-! ### `DECF` beside `VDEC` and `VENC` (10 R38) -/

theorem execDecf_of_fault {s : State} (h : s.status.fault = true) : execDecf s = .next s := by
  unfold execDecf unlessFault
  rw [if_pos h]

/-- The state with its staged and VBI registers replaced. -/
def withHostRegisters (s : State) (vp : VideoParams) (cc : CombConfig) (vw : VbiWords) (vr : VbiRec) : State :=
  { s with vp := vp, cc := cc, vw := vw, vr := vr }

/-- What `DECF` answers commutes with any change of the staged and VBI registers. -/
theorem execDecf_withHostRegisters {s t : State} (vp : VideoParams) (cc : CombConfig) (vw : VbiWords) (vr : VbiRec)
    (h : execDecf s = .next t) :
    execDecf (withHostRegisters s vp cc vw vr) = .next (withHostRegisters t vp cc vw vr) := by
  cases hfault : s.status.fault with
  | true =>
    rw [execDecf_of_fault hfault] at h
    cases h
    exact execDecf_of_fault hfault
  | false =>
    have hchecks : decfViolation (withHostRegisters s vp cc vw vr).beginDecf = decfViolation s.beginDecf := rfl
    rw [execDecf_eq hfault] at h
    rw [execDecf_eq (s := withHostRegisters s vp cc vw vr) hfault, hchecks]
    split at h <;> cases h <;> rfl

/-- `DECF` keeps the staged and VBI registers (10 R31, R38). -/
theorem hostRegisters_of_execDecf {s t : State} (h : execDecf s = .next t) :
    t.vp = s.vp ∧ t.cc = s.cc ∧ t.vw = s.vw ∧ t.vr = s.vr := by
  cases execDecf_effect h with
  | refused | decfRaised | decfCompleted => exact ⟨rfl, rfl, rfl, rfl⟩
  | lineCode _ _ hline => cases hline

/-- What `VDEC` answers is determined by `FAULT` and the VBI registers, which it alone changes. -/
theorem execVdec_congr {s t u : State} (h : execVdec s = .next t) (hfault : u.status.fault = s.status.fault)
    (hvw : u.vw = s.vw) (hvr : u.vr = s.vr) : execVdec u = .next { u with vw := t.vw, vr := t.vr } := by
  unfold execVdec at h ⊢
  rcases unlessFault_eq_next.mp h with ⟨hf, rfl⟩ | ⟨hf, hnext⟩
  · exact unlessFault_eq_next.mpr (.inl ⟨hfault.trans hf, by rw [← hvw, ← hvr]⟩)
  · cases hnext
    exact unlessFault_eq_next.mpr (.inr ⟨hfault.trans hf, by rw [← hvw]⟩)

/-- What `VENC` answers is determined by `FAULT` and the VBI registers, which it alone changes. -/
theorem execVenc_congr {p : BitVec 1} {s t u : State} (h : execVenc p s = .next t)
    (hfault : u.status.fault = s.status.fault) (hvw : u.vw = s.vw) (hvr : u.vr = s.vr) :
    execVenc p u = .next { u with vw := t.vw, vr := t.vr } := by
  unfold execVenc at h ⊢
  rcases unlessFault_eq_next.mp h with ⟨hf, rfl⟩ | ⟨hf, hnext⟩
  · exact unlessFault_eq_next.mpr (.inl ⟨hfault.trans hf, by rw [← hvw, ← hvr]⟩)
  · cases hnext
    exact unlessFault_eq_next.mpr (.inr ⟨hfault.trans hf, by rw [← hvr]⟩)

/-- Settles O38: `DECF` commutes with changes of the registers it does not read, and `VDEC` and `VENC` answer alike on
states that agree on `FAULT`, `VW` and `VR`. -/
theorem combAndVbiAreIndependent : Obligations.CombAndVbiAreIndependent := by
  refine ⟨fun s t vp cc vw vr h => ⟨execDecf_withHostRegisters vp cc vw vr h, hostRegisters_of_execDecf h⟩, ?_⟩
  rintro i s t u (rfl | rfl | rfl) h hfault hvw hvr
  · exact execVdec_congr h hfault hvw hvr
  · exact execVenc_congr h hfault hvw hvr
  · exact execVenc_congr h hfault hvw hvr

end Sys2Proof.Proofs
end

section
/-! PROOFS. The register space (10_state.md R23, R27, R28; 20_memory.md R64, R70, R73): the maps of the statements are the
model's map, row by row, and a named register reads what was last written to it. -/

namespace Sys2Proof.Proofs

open Sys2Proof.Machine

/-! ### The rows of the map -/

/-- The writable registers other than `CMD`, in index order (10 R28). -/
def writableRegisters : List RegName :=
  [.vp .fieldWidth, .vp .fieldHeight, .vp .activeStart, .vp .activeEnd, .vp .burstStart, .vp .burstEnd, .vp .black,
   .vp .white, .vp .isPal, .cc .chromaGain, .cc .flags, .cc .cnrLevel, .cc .ynrLevel,
   .f1Len, .f1Phase, .f2Len, .f2Phase,
   .vw .w116, .vw .w117, .vw .w118, .vw .w216, .vw .w217, .vw .w218,
   .vr .discType, .vr .picNo, .vr .chNo, .vr .clvHr, .vr .clvMin, .vr .clvSec, .vr .clvPicNo, .vr .flags, .vr .sound,
   .vr .userCode]

/-- The readable registers other than `STATUS`, in index order (10 R28). -/
def readableRegisters : List RegName :=
  [.errInfo, .vp .fieldWidth, .vp .fieldHeight, .vp .activeStart, .vp .activeEnd, .vp .burstStart, .vp .burstEnd,
   .vp .black, .vp .white, .vp .isPal, .cc .chromaGain, .cc .flags, .cc .cnrLevel, .cc .ynrLevel,
   .f1Len, .f1Phase, .f2Len, .f2Phase, .frWidth, .frHeight,
   .vw .w116, .vw .w117, .vw .w118, .vw .w216, .vw .w217, .vw .w218,
   .vr .discType, .vr .picNo, .vr .chNo, .vr .clvHr, .vr .clvMin, .vr .clvSec, .vr .clvPicNo, .vr .flags, .vr .sound,
   .vr .userCode,
   .actVp .fieldWidth, .actVp .fieldHeight, .actVp .activeStart, .actVp .activeEnd, .actVp .burstStart,
   .actVp .burstEnd, .actVp .black, .actVp .white, .actVp .isPal,
   .actCc .chromaGain, .actCc .flags, .actCc .cnrLevel, .actCc .ynrLevel]

/-- The width of a writable register; of the others nothing is stored (10 R28). -/
def registerWidth : RegName → Nat
  | .vp .isPal => 1
  | .vp _ => 16
  | .cc .chromaGain => 10
  | .cc .flags => 5
  | .cc _ => 8
  | .f1Len | .f2Len => 18
  | .f1Phase | .f2Phase => 3
  | .vw _ => 24
  | .vr .discType => 2
  | .vr .flags => 13
  | .vr .sound => 8
  | .vr .userCode => 17
  | .vr _ => 32
  | .cmd | .status | .errInfo | .frWidth | .frHeight | .actVp _ | .actCc _ => 0

/-- The written states that the statements name are those of the model's write, row by row. -/
theorem writtenAt_eq_map (s : State) (v : Word) :
    Spec.writtenAt s v = writableRegisters.map fun r => (r.index, s.writeNamed r v) := rfl

/-- The widths that the statements name are those of the writable registers. -/
theorem rwRegisters_eq_map : Spec.rwRegisters = writableRegisters.map fun r => (r.index, registerWidth r) := by decide

/-- The values that the statements name are those of the model's read, row by row. -/
theorem readsAt_eq_map (s : State) :
    Spec.readsAt s = readableRegisters.map fun r => (r.index, s.readNamed r) := rfl

/-- An index is writable exactly when it is a writable register's. -/
theorem mem_rwRegisters_iff {k : Nat} : k ∈ Spec.rwRegisters.map Prod.fst ↔ ∃ r ∈ writableRegisters, r.index = k := by
  rw [rwRegisters_eq_map, List.map_map]
  exact List.mem_map

/-- `CMD` is not among the writable registers of the statements. -/
theorem ne_cmd_of_writable {r : RegName} (h : r ∈ writableRegisters) : r ≠ .cmd := by
  rintro rfl
  exact absurd h (by decide)

/-- A register is `CMD`, writable or read-only (10 R28). -/
theorem register_cases (r : RegName) : r = .cmd ∨ r ∈ writableRegisters ∨ r.index ∈ Spec.roRegisters := by
  cases r with
  | vp q | cc q | vw q | vr q | actVp q | actCc q => cases q <;> decide
  | _ => decide

/-- A write of a read-only register is discarded (10 R27). -/
theorem writeNamed_of_not_writable (s : State) {r : RegName} (v : Word) (h : r ∉ writableRegisters) :
    s.writeNamed r v = s := by
  cases r with
  | vp q | cc q | vw q | vr q => cases q <;> exact absurd h (by decide)
  | f1Len | f1Phase | f2Len | f2Phase => exact absurd h (by decide)
  | cmd | status | errInfo | frWidth | frHeight | actVp | actCc => rfl

/-! ### A named register after a write -/

/-- A value kept in a register of `n` bits and read back is its value modulo `2 ^ n` (10 R27). -/
theorem setWidth_setWidth_eq_ofNat (n : Nat) (v : Word) :
    (v.setWidth n).setWidth 32 = BitVec.ofNat 32 (v.toNat % 2 ^ n) := by
  apply BitVec.eq_of_toNat_eq
  simp only [BitVec.toNat_setWidth, BitVec.toNat_ofNat]

/-- A writable register reads the low bits of what was written. -/
theorem readNamed_writeNamed_same (s : State) {r : RegName} (v : Word) (h : r ∈ writableRegisters) :
    (s.writeNamed r v).readNamed r = BitVec.ofNat 32 (v.toNat % 2 ^ registerWidth r) := by
  have hfull : v = (v.setWidth 32).setWidth 32 := by simp
  rw [← setWidth_setWidth_eq_ofNat]
  cases r with
  | vp q | cc q | vw q => cases q <;> rfl
  | vr q =>
    cases q with
    | discType | flags | sound | userCode => rfl
    | picNo | chNo | clvHr | clvMin | clvSec | clvPicNo => exact hfull
  | f1Len | f1Phase | f2Len | f2Phase => rfl
  | cmd | status | errInfo | frWidth | frHeight => exact absurd h (by decide)
  | actVp q | actCc q => cases q <;> exact absurd h (by decide)

theorem videoParams_read_write_other (p : VideoParams) {q r : VpReg} (v : Word) (h : q ≠ r) :
    (p.write r v).read q = p.read q := by
  cases r <;> cases q <;> trivial

theorem combConfig_read_write_other (c : CombConfig) {q r : CcReg} (v : Word) (h : q ≠ r) :
    (c.write r v).read q = c.read q := by
  cases r <;> cases q <;> trivial

theorem vbiWords_read_write_other (w : VbiWords) {q r : VwReg} (v : Word) (h : q ≠ r) :
    (w.write r v).read q = w.read q := by
  cases r <;> cases q <;> trivial

theorem vbiRec_read_write_other (w : VbiRec) {q r : VrReg} (v : Word) (h : q ≠ r) :
    (w.write r v).read q = w.read q := by
  cases r <;> cases q <;> trivial

/-- A write of a register leaves what every other register reads: within a block of the map by the block's own law,
across blocks because the write touches one field of the state. -/
theorem readNamed_writeNamed_other (s : State) {q r : RegName} (v : Word) (h : q ≠ r) :
    (s.writeNamed r v).readNamed q = s.readNamed q := by
  cases r with
  | vp r =>
    cases q with
    | vp q => exact videoParams_read_write_other s.vp v fun e => h (congrArg _ e)
    | _ => rfl
  | cc r =>
    cases q with
    | cc q => exact combConfig_read_write_other s.cc v fun e => h (congrArg _ e)
    | _ => rfl
  | vw r =>
    cases q with
    | vw q => exact vbiWords_read_write_other s.vw v fun e => h (congrArg _ e)
    | _ => rfl
  | vr r =>
    cases q with
    | vr q => exact vbiRec_read_write_other s.vr v fun e => h (congrArg _ e)
    | _ => rfl
  | f1Len | f1Phase | f2Len | f2Phase =>
    cases q with
    | f1Len | f1Phase | f2Len | f2Phase => trivial
    | _ => rfl
  | cmd | status | errInfo | frWidth | frHeight | actVp | actCc => rfl

/-- At the host port: a write at a register's index leaves what every other index reads. -/
theorem readReg_writeNamed_other (s : State) {r : RegName} {k : Nat} (v : Word) (h : k ≠ r.index) :
    (s.writeNamed r v).readReg k = s.readReg k := by
  rcases index_cases k with ⟨q, rfl⟩ | hreserved
  · rw [readReg_index, readReg_index, readNamed_writeNamed_other s v fun e => h (congrArg _ e)]
  · rw [readReg_reserved _ hreserved, readReg_reserved _ hreserved]

/-- A register write leaves every buffer element (20 R61). -/
theorem readBuf_writeNamed (s : State) (r : RegName) (v : Word) (sp : BufSpace) (k : Nat) :
    (s.writeNamed r v).readBuf sp k = s.readBuf sp k := by
  cases r <;> rfl

theorem portData_writeNamed (s : State) (r : RegName) (v : Word) : (s.writeNamed r v).portData = s.portData := by
  cases r <;> rfl

/-- A step that writes a register other than `CMD` stores into it and does nothing else. -/
theorem step_registerWrite {s : State} {r : RegName} {v : Word} {rest : List HostEvent} (hcmd : r ≠ .cmd)
    (hhost : s.host = .writeReg r.index v :: rest) : step s = .next ({ s with host := rest }.writeNamed r v) := by
  rw [step_of_host_cons hhost, hostEvent_writeReg_index _ v hcmd]

/-- Settles O53: each writable row of the map names a register, and a write of it reads back there and nowhere else. -/
theorem registerReadAfterWrite : Obligations.RegisterReadAfterWrite := by
  constructor
  · intro s v rest e he hhost
    rw [writtenAt_eq_map, List.mem_map] at he
    obtain ⟨r, hr, rfl⟩ := he
    exact step_registerWrite (ne_cmd_of_writable hr) hhost
  · intro s v rest e he hhost
    rw [rwRegisters_eq_map, List.mem_map] at he
    obtain ⟨r, hr, rfl⟩ := he
    refine ⟨_, step_registerWrite (ne_cmd_of_writable hr) hhost, ?_, fun j hj => ?_, fun sp k => ?_, ?_, ?_, ?_, ?_⟩
    · rw [readReg_index, readNamed_writeNamed_same _ v hr]
    · exact readReg_writeNamed_other _ v hj
    · exact readBuf_writeNamed _ r v sp k
    · exact State.writeNamed_prev _ r v
    · exact congrArg Config.freeFrame (State.writeNamed_curEpoch _ r v)
    · exact State.writeNamed_host _ r v
    · exact portData_writeNamed _ r v

/-- Settles O54: an index that is not writable is reserved, read-only or `CMD`. -/
theorem otherRegisterIndices : Obligations.OtherRegisterIndices := by
  intro s k hk
  rcases index_cases k with ⟨r, rfl⟩ | hreserved
  · have hr : r ∉ writableRegisters := fun h => hk (mem_rwRegisters_iff.mpr ⟨r, h, rfl⟩)
    refine ⟨fun v rest hhost hne => ?_, fun hro => ?_⟩
    · have hcmd : r ≠ .cmd := fun e => hne (congrArg _ e)
      rw [step_registerWrite hcmd hhost, writeNamed_of_not_writable _ v hr]
    · rcases register_cases r with rfl | hwritable | hreadOnly
      · exact readReg_index s .cmd
      · exact absurd hwritable hr
      · exact absurd hreadOnly hro
  · refine ⟨fun v rest hhost _ => ?_, fun _ => readReg_reserved s hreserved⟩
    rw [step_of_host_cons hhost, hostEvent_writeReg_reserved _ v hreserved]

/-! ### `STATUS` (10 R23) -/

/-- A concatenation read as a number. -/
theorem toNat_append_eq_add {m n : Nat} (x : BitVec m) (y : BitVec n) :
    (x ++ y).toNat = x.toNat * 2 ^ n + y.toNat := by
  rw [BitVec.toNat_append, ← Nat.shiftLeft_add_eq_or_of_lt y.isLt, Nat.shiftLeft_eq]

/-- The layout of `STATUS` (10 R23). -/
theorem statusWord_toNat (s : State) :
    s.statusWord.toNat =
      s.status.configured.toNat + 2 * s.status.fault.toNat + 4 * s.prev.isSome.toNat + 8 * s.status.frame3D.toNat
        + 16 * s.status.frameValid.toNat + 256 * s.status.err.toNat := by
  simp only [State.statusWord, State.prevValid, toNat_append_eq_add, BitVec.toNat_ofBool, BitVec.toNat_ofNat]
  omega

/-- Settles O55: `STATUS` is the sum of its fields, and each readable row of the map gives the register it names. -/
theorem statusRegisterLayout : Obligations.StatusRegisterLayout := by
  intro s
  refine ⟨statusWord_toNat s, fun e he => ?_⟩
  rw [readsAt_eq_map, List.mem_map] at he
  obtain ⟨r, -, rfl⟩ := he
  exact readReg_index s r

end Sys2Proof.Proofs
end

section
/-! PROOFS. The buffer spaces of the host port (20_memory.md R60, R61, R65, R66, R73): read after write of a field
buffer, the accesses beyond a buffer, and the host's reads. -/

namespace Sys2Proof.Proofs

open Sys2Proof.Machine

/-! ### What an element reads -/

/-- Below the capacity the host reads the element that `DECF` takes as its first or second field's (20 R61). -/
theorem readBuf_fields_of_lt (s : State) {k : Nat} (h : k < Config.fbufCap) :
    s.readBuf .f1 k = s.fieldElem false k ∧ s.readBuf .f2 k = s.fieldElem true k := ⟨if_pos h, if_pos h⟩

/-- The number of elements of a buffer space (20 R65, R66). -/
def bufCap : BufSpace → Nat
  | .f1 | .f2 => Config.fbufCap
  | .rgb => Config.rgbCap

/-- Beyond a buffer the host reads 0 (20 R73). -/
theorem readBuf_beyond (s : State) {sp : BufSpace} {k : Nat} (h : bufCap sp ≤ k) : s.readBuf sp k = 0#16 := by
  cases sp <;> exact if_neg (Nat.not_lt.mpr h)

/-- The events still pending play no part in what a buffer element reads. -/
theorem readBuf_host (s : State) (rest : List HostEvent) (sp : BufSpace) (k : Nat) :
    { s with host := rest }.readBuf sp k = s.readBuf sp k := by
  cases sp <;> rfl

/-- The events still pending play no part in what a register reads. -/
theorem readReg_host (s : State) (rest : List HostEvent) (k : Nat) :
    { s with host := rest }.readReg k = s.readReg k := by
  rcases index_cases k with ⟨r, rfl⟩ | hreserved
  · rw [readReg_index, readReg_index]
    cases r <;> rfl
  · rw [readReg_reserved _ hreserved, readReg_reserved _ hreserved]

/-! ### Read after write -/

/-- An element of a field buffer reads as it was just written, whatever it was before (20 R61). -/
theorem readBuf_writeBuf_same (s : State) {sp : BufSpace} {k : Nat} (v : Sample) (hsp : sp ≠ .rgb)
    (hk : k < Config.fbufCap) : (s.writeBuf sp k v).readBuf sp k = v := by
  cases sp with
  | f1 | f2 => simp [State.writeBuf, State.readBuf, State.fieldElem, hk]
  | rgb => exact absurd rfl hsp

/-- A buffer write leaves what every other element reads: in the buffer written by the law of the memory, in the other
two because the write touches one field of the state (20 R61). -/
theorem readBuf_writeBuf_other (s : State) {sp sp' : BufSpace} {k j : Nat} (v : Sample) (h : sp' ≠ sp ∨ j ≠ k) :
    (s.writeBuf sp k v).readBuf sp' j = s.readBuf sp' j := by
  rcases State.writeBuf_cases s sp k v with hw | ⟨rfl, -, hw⟩ | ⟨rfl, -, hw⟩ <;> rw [hw]
  · cases sp' with
    | f1 =>
      have hj : j ≠ k := h.resolve_left fun hne => hne rfl
      simp only [State.readBuf, State.fieldElem, Bool.false_eq_true, if_false, Memory.read_write_other _ v hj]
    | f2 | rgb => rfl
  · cases sp' with
    | f2 =>
      have hj : j ≠ k := h.resolve_left fun hne => hne rfl
      simp only [State.readBuf, State.fieldElem, if_true, Memory.read_write_other _ v hj]
    | f1 | rgb => rfl

/-- A write of `RGB`, or beyond a field buffer, is discarded (20 R61, R73). -/
theorem writeBuf_discarded (s : State) {sp : BufSpace} {k : Nat} (v : Sample)
    (h : sp = .rgb ∨ Config.fbufCap ≤ k) : s.writeBuf sp k v = s := by
  rcases State.writeBuf_cases s sp k v with hw | ⟨rfl, hk, -⟩ | ⟨rfl, hk, -⟩
  · exact hw
  all_goals exact absurd hk (Nat.not_lt.mpr (h.resolve_left nofun))

/-! ### The port transactions as steps -/

/-- The step of a buffer write. -/
theorem step_bufferWrite {s : State} {sp : BufSpace} {k : Nat} {v : Sample} {rest : List HostEvent}
    (hhost : s.host = .writeBuf sp k v :: rest) : step s = .next ({ s with host := rest }.writeBuf sp k v) :=
  step_of_host_cons hhost

/-- The step of a register read: only what the host has read changes. -/
theorem step_registerRead {s : State} {k : Nat} {rest : List HostEvent} (hhost : s.host = .readReg k :: rest) :
    step s = .next { s with host := rest, portData := s.readReg k } := by
  rw [step_of_host_cons hhost, ← readReg_host s rest k]
  rfl

/-- The step of a buffer read: only what the host has read changes, to the element widened to a word. -/
theorem step_bufferRead {s : State} {sp : BufSpace} {k : Nat} {rest : List HostEvent}
    (hhost : s.host = .readBuf sp k :: rest) :
    step s = .next { s with host := rest, portData := BitVec.ofNat 32 (s.readBuf sp k).toNat } := by
  rw [step_of_host_cons hhost, BitVec.ofNat_toNat, ← readBuf_host s rest sp k]
  rfl

/-- Settles O56: a buffer write is the memory's own write or is discarded, and a read leaves the buffers. -/
theorem bufferReadAfterWrite : Obligations.BufferReadAfterWrite := by
  intro s k v rest
  refine ⟨fun sp hsp hk hhost => ⟨_, step_bufferWrite hhost, ?_, fun sp' j hne => ?_, ?_⟩, fun sp hout hhost => ?_,
    readBuf_fields_of_lt s, fun hk => ⟨readBuf_beyond s hk, readBuf_beyond s hk⟩,
    fun hk => readBuf_beyond s hk, step_registerRead, fun sp => step_bufferRead⟩
  · exact readBuf_writeBuf_same _ v hsp hk
  · rw [readBuf_writeBuf_other _ v hne, readBuf_host]
  · rw [writeBuf_frame]
  · rw [step_bufferWrite hhost, writeBuf_discarded _ v hout]

end Sys2Proof.Proofs
end

section
/-! PROOFS. A line code as its six nibbles (30_encoding.md R91): masks, the decoder and the encoder read nibble by nibble,
so that no proof below computes on 24 bits. -/

namespace Sys2Proof.Proofs

open Sys2Proof.Machine

/-! ### The six nibbles of a line code -/

/-- The line code of six nibbles, from the most significant one (30 R91). -/
def lineOf (n0 n1 n2 n3 n4 n5 : BitVec 4) : LineWord := n0 ++ n1 ++ n2 ++ n3 ++ n4 ++ n5

theorem lineOf_toNat (n0 n1 n2 n3 n4 n5 : BitVec 4) :
    (lineOf n0 n1 n2 n3 n4 n5).toNat =
      0x100000 * n0.toNat + 0x10000 * n1.toNat + 0x1000 * n2.toNat + 0x100 * n3.toNat + 0x10 * n4.toNat + n5.toNat := by
  simp only [lineOf, toNat_append_eq_add]
  omega

theorem extractLsb'_toNat_eq_div_mod {n : Nat} (s m : Nat) (x : BitVec n) :
    (x.extractLsb' s m).toNat = x.toNat / 2 ^ s % 2 ^ m := by
  rw [BitVec.extractLsb'_toNat, Nat.shiftRight_eq_div_pow]

theorem extractLsb'_eq_of_div_mod {n s m : Nat} {x : BitVec n} {y : BitVec m}
    (h : x.toNat / 2 ^ s % 2 ^ m = y.toNat) : x.extractLsb' s m = y :=
  BitVec.eq_of_toNat_eq ((extractLsb'_toNat_eq_div_mod s m x).trans h)

section Fields

variable (n0 n1 n2 n3 n4 n5 : BitVec 4)

@[simp] theorem lineOf_nibble0 : (lineOf n0 n1 n2 n3 n4 n5).extractLsb' 20 4 = n0 :=
  extractLsb'_eq_of_div_mod (by rw [lineOf_toNat]; omega)

@[simp] theorem lineOf_nibble1 : (lineOf n0 n1 n2 n3 n4 n5).extractLsb' 16 4 = n1 :=
  extractLsb'_eq_of_div_mod (by rw [lineOf_toNat]; omega)

@[simp] theorem lineOf_nibble2 : (lineOf n0 n1 n2 n3 n4 n5).extractLsb' 12 4 = n2 :=
  extractLsb'_eq_of_div_mod (by rw [lineOf_toNat]; omega)

@[simp] theorem lineOf_nibble3 : (lineOf n0 n1 n2 n3 n4 n5).extractLsb' 8 4 = n3 :=
  extractLsb'_eq_of_div_mod (by rw [lineOf_toNat]; omega)

@[simp] theorem lineOf_nibble4 : (lineOf n0 n1 n2 n3 n4 n5).extractLsb' 4 4 = n4 :=
  extractLsb'_eq_of_div_mod (by rw [lineOf_toNat]; omega)

@[simp] theorem lineOf_nibble5 : (lineOf n0 n1 n2 n3 n4 n5).extractLsb' 0 4 = n5 :=
  extractLsb'_eq_of_div_mod (by rw [lineOf_toNat]; omega)

/-- Bit 19 is the top bit of nibble 1 (30 R93, R95). -/
@[simp] theorem lineOf_bit19 : (lineOf n0 n1 n2 n3 n4 n5).extractLsb' 19 1 = n1.extractLsb' 3 1 :=
  extractLsb'_eq_of_div_mod (by rw [lineOf_toNat, extractLsb'_toNat_eq_div_mod]; omega)

/-- Bits 18:16 are the low bits of nibble 1 (30 R93, R95). -/
@[simp] theorem lineOf_bits18_16 : (lineOf n0 n1 n2 n3 n4 n5).extractLsb' 16 3 = n1.extractLsb' 0 3 :=
  extractLsb'_eq_of_div_mod (by rw [lineOf_toNat, extractLsb'_toNat_eq_div_mod]; omega)

/-- Bits 11:0 are the last three nibbles (30 R98). -/
@[simp] theorem lineOf_bits11_0 : (lineOf n0 n1 n2 n3 n4 n5).extractLsb' 0 12 = n3 ++ n4 ++ n5 :=
  extractLsb'_eq_of_div_mod (by rw [lineOf_toNat, toNat_append_eq_add, toNat_append_eq_add]; omega)

end Fields

/-- Every line code is the line code of its nibbles. -/
theorem eq_lineOf (w : LineWord) :
    w = lineOf (w.extractLsb' 20 4) (w.extractLsb' 16 4) (w.extractLsb' 12 4) (w.extractLsb' 8 4) (w.extractLsb' 4 4)
      (w.extractLsb' 0 4) :=
  BitVec.eq_of_toNat_eq (by
    have hw := w.isLt
    simp only [lineOf_toNat, extractLsb'_toNat_eq_div_mod]
    omega)

theorem exists_eq_lineOf (w : LineWord) : ∃ n0 n1 n2 n3 n4 n5, w = lineOf n0 n1 n2 n3 n4 n5 :=
  ⟨_, _, _, _, _, _, eq_lineOf w⟩

/-- Line codes are equal nibble by nibble. -/
theorem lineWord_ext_iff {v w : LineWord} :
    v = w ↔ v.extractLsb' 20 4 = w.extractLsb' 20 4 ∧ v.extractLsb' 16 4 = w.extractLsb' 16 4 ∧
      v.extractLsb' 12 4 = w.extractLsb' 12 4 ∧ v.extractLsb' 8 4 = w.extractLsb' 8 4 ∧
      v.extractLsb' 4 4 = w.extractLsb' 4 4 ∧ v.extractLsb' 0 4 = w.extractLsb' 0 4 := by
  refine ⟨fun h => h ▸ ⟨rfl, rfl, rfl, rfl, rfl, rfl⟩, fun ⟨h0, h1, h2, h3, h4, h5⟩ => ?_⟩
  rw [eq_lineOf v, eq_lineOf w, h0, h1, h2, h3, h4, h5]

@[simp] theorem and_fifteen (n : BitVec 4) : n &&& 15#4 = n := BitVec.and_allOnes

/-- A row's mask and match, nibble by nibble (30 R91). -/
theorem lineOf_and_eq_iff {n0 n1 n2 n3 n4 n5 : BitVec 4} {mask pattern : LineWord} :
    lineOf n0 n1 n2 n3 n4 n5 &&& mask = pattern ↔
      n0 &&& mask.extractLsb' 20 4 = pattern.extractLsb' 20 4 ∧ n1 &&& mask.extractLsb' 16 4 = pattern.extractLsb' 16 4 ∧
      n2 &&& mask.extractLsb' 12 4 = pattern.extractLsb' 12 4 ∧ n3 &&& mask.extractLsb' 8 4 = pattern.extractLsb' 8 4 ∧
      n4 &&& mask.extractLsb' 4 4 = pattern.extractLsb' 4 4 ∧ n5 &&& mask.extractLsb' 0 4 = pattern.extractLsb' 0 4 := by
  simp only [lineWord_ext_iff, BitVec.extractLsb'_and, lineOf_nibble0, lineOf_nibble1, lineOf_nibble2, lineOf_nibble3,
    lineOf_nibble4, lineOf_nibble5]

theorem matchesRow_iff {w mask pattern : LineWord} : matchesRow w mask pattern = true ↔ w &&& mask = pattern := by
  rw [matchesRow, beq_iff_eq]

/-- The decoder, nibble by nibble, in the model's order of the rows (30 R92 to R98; log 4). -/
theorem decodeLine_lineOf (n0 n1 n2 n3 n4 n5 : BitVec 4) :
    decodeLine (lineOf n0 n1 n2 n3 n4 n5) =
      if n0 = 8#4 ∧ n1 = 8#4 ∧ n2 = 15#4 ∧ n3 = 15#4 ∧ n4 = 15#4 ∧ n5 = 15#4 then .ok .leadin
      else if n0 = 8#4 ∧ n1 = 0#4 ∧ n2 = 14#4 ∧ n3 = 14#4 ∧ n4 = 14#4 ∧ n5 = 14#4 then .ok .leadout
      else if n0 = 8#4 ∧ n1 = 2#4 ∧ n2 = 12#4 ∧ n3 = 15#4 ∧ n4 = 15#4 ∧ n5 = 15#4 then .ok .stop
      else if n0 = 8#4 ∧ n1 = 7#4 ∧ n2 = 15#4 ∧ n3 = 15#4 ∧ n4 = 15#4 ∧ n5 = 15#4 then .ok .clvmark
      else if n0 = 8#4 ∧ n1 = 13#4 ∧ n2 = 12#4 then .ok (.statusCxOn n3 n4 n5)
      else if n0 = 8#4 ∧ n1 = 11#4 ∧ n2 = 10#4 then .ok (.statusCxOff n3 n4 n5)
      else if n0 = 15#4 ∧ n2 = 13#4 ∧ n3 = 13#4 then .ok (.timecode n1 n4 n5)
      else if n0 = 15#4 then .ok (.picno (n1.extractLsb' 3 1) (n1.extractLsb' 0 3) n2 n3 n4 n5)
      else if n0 = 8#4 ∧ n2 = 14#4 then .ok (.clvsec n1 n3 n4 n5)
      else if n0 = 8#4 ∧ n2 = 13#4 then .ok (.usercode n1 (n3 ++ n4 ++ n5))
      else if n0 = 8#4 ∧ n3 = 13#4 ∧ n4 = 13#4 ∧ n5 = 13#4 then
        .ok (.chapter (n1.extractLsb' 3 1) (n1.extractLsb' 0 3) n2)
      else .error .unrecognisedLine := by
  simp [decodeLine, matchesRow_iff, lineOf_and_eq_iff]

/-! ### The encoder, nibble by nibble (30 R93 to R98) -/

theorem lineCode_eq_of_toNat {v w : LineWord} (h : v.toNat = w.toNat) : CodeWord.lineCode v = .lineCode w :=
  congrArg CodeWord.lineCode (BitVec.eq_of_toNat_eq h)

theorem encode_picno (s19 : BitVec 1) (d4 : BitVec 3) (d3 d2 d1 d0 : BitVec 4) :
    encode (.picno s19 d4 d3 d2 d1 d0) = .lineCode (lineOf 15#4 (s19 ++ d4) d3 d2 d1 d0) :=
  lineCode_eq_of_toNat (by simp only [lineOf_toNat, toNat_append_eq_add, BitVec.toNat_ofNat]; omega)

theorem encode_timecode (hr mt mu : BitVec 4) :
    encode (.timecode hr mt mu) = .lineCode (lineOf 15#4 hr 13#4 13#4 mt mu) :=
  lineCode_eq_of_toNat (by simp only [lineOf_toNat, toNat_append_eq_add, BitVec.toNat_ofNat]; omega)

theorem encode_chapter (c19 : BitVec 1) (ct : BitVec 3) (cu : BitVec 4) :
    encode (.chapter c19 ct cu) = .lineCode (lineOf 8#4 (c19 ++ ct) cu 13#4 13#4 13#4) :=
  lineCode_eq_of_toNat (by simp only [lineOf_toNat, toNat_append_eq_add, BitVec.toNat_ofNat]; omega)

theorem encode_clvsec (x1 x3 x4 x5 : BitVec 4) :
    encode (.clvsec x1 x3 x4 x5) = .lineCode (lineOf 8#4 x1 14#4 x3 x4 x5) := rfl

theorem encode_statusCxOn (x3 x4 x5 : BitVec 4) :
    encode (.statusCxOn x3 x4 x5) = .lineCode (lineOf 8#4 13#4 12#4 x3 x4 x5) := rfl

theorem encode_statusCxOff (x3 x4 x5 : BitVec 4) :
    encode (.statusCxOff x3 x4 x5) = .lineCode (lineOf 8#4 11#4 10#4 x3 x4 x5) := rfl

theorem encode_usercode (x1 x3 x4 x5 : BitVec 4) :
    encode (.usercode x1 (x3 ++ x4 ++ x5)) = .lineCode (lineOf 8#4 x1 13#4 x3 x4 x5) :=
  lineCode_eq_of_toNat (by simp only [lineOf_toNat, toNat_append_eq_add, BitVec.toNat_ofNat]; omega)

/-- The operand of a `USERCODE` is three nibbles (30 R98). -/
theorem exists_eq_three_nibbles (x : BitVec 12) : ∃ x3 x4 x5 : BitVec 4, x = x3 ++ x4 ++ x5 :=
  ⟨x.extractLsb' 8 4, x.extractLsb' 4 4, x.extractLsb' 0 4, BitVec.eq_of_toNat_eq (by
    have hx := x.isLt
    simp only [toNat_append_eq_add, extractLsb'_toNat_eq_div_mod]
    omega)⟩

/-- Nibble 1 of `PICNO` and `CHAPTER` is its top bit and its three low bits (30 R93, R95). -/
@[simp] theorem nibble_eq_bit_append (n : BitVec 4) : n.extractLsb' 3 1 ++ n.extractLsb' 0 3 = n := by
  rw [BitVec.extractLsb'_append_extractLsb'_eq_extractLsb' (by rfl), BitVec.extractLsb'_eq_self]

@[simp] theorem bit_append_top (b : BitVec 1) (x : BitVec 3) : (b ++ x).extractLsb' 3 1 = b :=
  BitVec.extractLsb'_append_eq_left

@[simp] theorem bit_append_low (b : BitVec 1) (x : BitVec 3) : (b ++ x).extractLsb' 0 3 = x :=
  BitVec.extractLsb'_append_eq_right

/-! ### The terms that no word is read as (log 4) -/

/-- A `PICNO` term is ill formed when its word has the filler of a `TIMECODE` word (30 R94). -/
theorem wfPicno_iff {d3 d2 : BitVec 4} : Instr.wfPicno d3 d2 = true ↔ ¬(d3 = 13#4 ∧ d2 = 13#4) := by
  simp [Instr.wfPicno, imp_iff_not_or]

/-- A `CHAPTER` term is ill formed when its word is a `USERCODE`, `CLVSEC` or programme status word (30 R95, R100). -/
theorem wfChapter_iff {c19 : BitVec 1} {ct : BitVec 3} {cu : BitVec 4} :
    Instr.wfChapter c19 ct cu = true ↔
      cu ≠ 13#4 ∧ cu ≠ 14#4 ∧ ¬(c19 ++ ct = 13#4 ∧ cu = 12#4) ∧ ¬(c19 ++ ct = 11#4 ∧ cu = 10#4) := by
  simp [Instr.wfChapter, imp_iff_not_or, and_assoc]

/-- A `CLVSEC` term is ill formed when its word is the `LEADOUT` sentinel (30 R96). -/
theorem wfClvsec_iff {x1 x3 x4 x5 : BitVec 4} :
    Instr.wfClvsec x1 x3 x4 x5 = true ↔ ¬(x1 = 0#4 ∧ x3 = 14#4 ∧ x4 = 14#4 ∧ x5 = 14#4) := by
  simp [Instr.wfClvsec, imp_iff_not_or, or_assoc]

end Sys2Proof.Proofs
end

section
/-! PROOFS. Decoding and encoding agree: the opcode map, the formats of the line codes, the round trip in both directions
(30_encoding.md R80 to R100). -/

namespace Sys2Proof.Proofs

open Sys2Proof.Machine

/-! ### Decode of encode (30 R80, R83, R92 to R98; log 4) -/

theorem decodeCommand_venc (p : BitVec 1) : decodeCommand (0#23 ++ p ++ 0x04#8) = .ok (.venc p) := by
  revert p
  decide

/-- A well-formed `PICNO` is not a `TIMECODE` word (30 R94). -/
theorem decodeLine_picno {s19 : BitVec 1} {d4 : BitVec 3} {d3 d2 : BitVec 4} (d1 d0 : BitVec 4)
    (h : Instr.wfPicno d3 d2 = true) :
    decodeLine (lineOf 15#4 (s19 ++ d4) d3 d2 d1 d0) = .ok (.picno s19 d4 d3 d2 d1 d0) := by
  simp [decodeLine_lineOf, wfPicno_iff.mp h]

/-- A well-formed `CHAPTER` is neither a programme status word nor a `CLVSEC` or `USERCODE` word (30 R95, R100). -/
theorem decodeLine_chapter {c19 : BitVec 1} {ct : BitVec 3} {cu : BitVec 4}
    (h : Instr.wfChapter c19 ct cu = true) :
    decodeLine (lineOf 8#4 (c19 ++ ct) cu 13#4 13#4 13#4) = .ok (.chapter c19 ct cu) := by
  obtain ⟨husercode, hclvsec, hcxOn, hcxOff⟩ := wfChapter_iff.mp h
  simp [decodeLine_lineOf, husercode, hclvsec, hcxOn, hcxOff]

/-- A well-formed `CLVSEC` is not the `LEADOUT` sentinel (30 R96). -/
theorem decodeLine_clvsec {x1 x3 x4 x5 : BitVec 4} (h : Instr.wfClvsec x1 x3 x4 x5 = true) :
    decodeLine (lineOf 8#4 x1 14#4 x3 x4 x5) = .ok (.clvsec x1 x3 x4 x5) := by
  simp [decodeLine_lineOf, wfClvsec_iff.mp h]

theorem decodeLine_timecode (hr mt mu : BitVec 4) :
    decodeLine (lineOf 15#4 hr 13#4 13#4 mt mu) = .ok (.timecode hr mt mu) := by
  simp [decodeLine_lineOf]

theorem decodeLine_statusCxOn (x3 x4 x5 : BitVec 4) :
    decodeLine (lineOf 8#4 13#4 12#4 x3 x4 x5) = .ok (.statusCxOn x3 x4 x5) := by
  simp [decodeLine_lineOf]

theorem decodeLine_statusCxOff (x3 x4 x5 : BitVec 4) :
    decodeLine (lineOf 8#4 11#4 10#4 x3 x4 x5) = .ok (.statusCxOff x3 x4 x5) := by
  simp [decodeLine_lineOf]

theorem decodeLine_usercode (x1 x3 x4 x5 : BitVec 4) :
    decodeLine (lineOf 8#4 x1 13#4 x3 x4 x5) = .ok (.usercode x1 (x3 ++ x4 ++ x5)) := by
  simp [decodeLine_lineOf]

/-- Settles O3, instruction by instruction: the rows read before an instruction's own do not match its word. -/
theorem decodeOfEncode : Obligations.DecodeOfEncode := by
  intro i hwf
  cases i with
  | nop | cfg | decf | vdec | srst | leadin | leadout | stop | clvmark => rfl
  | venc p => exact decodeCommand_venc p
  | picno s19 d4 d3 d2 d1 d0 => rw [encode_picno]; exact decodeLine_picno d1 d0 hwf
  | timecode hr mt mu => rw [encode_timecode]; exact decodeLine_timecode hr mt mu
  | chapter c19 ct cu => rw [encode_chapter]; exact decodeLine_chapter hwf
  | clvsec x1 x3 x4 x5 => exact decodeLine_clvsec hwf
  | statusCxOn x3 x4 x5 => exact decodeLine_statusCxOn x3 x4 x5
  | statusCxOff x3 x4 x5 => exact decodeLine_statusCxOff x3 x4 x5
  | usercode x1 x345 =>
    obtain ⟨x3, x4, x5, rfl⟩ := exists_eq_three_nibbles x345
    rw [encode_usercode]
    exact decodeLine_usercode x1 x3 x4 x5

/-! ### Encode of decode -/

/-- Every command is well formed (30 R83). -/
theorem wf_of_encode_command {i : Instr} {c : Word} (h : encode i = .command c) : i.wf = true := by
  cases i with
  | nop | cfg | decf | vdec | venc | srst => rfl
  | _ => cases h

/-- What a line code decodes to is well formed and keeps every nibble: each row gives back the nibbles it fixes, and the
rows passed over are what `wf` excludes (log 4). -/
theorem wf_and_encode_of_decodeLine {w : LineWord} {i : Instr} (h : decodeLine w = .ok i) :
    i.wf = true ∧ encode i = .lineCode w := by
  obtain ⟨n0, n1, n2, n3, n4, n5, rfl⟩ := exists_eq_lineOf w
  rw [decodeLine_lineOf] at h
  rcases ite_eq_iff.mp h with ⟨⟨rfl, rfl, rfl, rfl, rfl, rfl⟩, h⟩ | ⟨-, h⟩
  · cases h; exact ⟨rfl, rfl⟩
  rcases ite_eq_iff.mp h with ⟨⟨rfl, rfl, rfl, rfl, rfl, rfl⟩, h⟩ | ⟨hleadout, h⟩
  · cases h; exact ⟨rfl, rfl⟩
  rcases ite_eq_iff.mp h with ⟨⟨rfl, rfl, rfl, rfl, rfl, rfl⟩, h⟩ | ⟨-, h⟩
  · cases h; exact ⟨rfl, rfl⟩
  rcases ite_eq_iff.mp h with ⟨⟨rfl, rfl, rfl, rfl, rfl, rfl⟩, h⟩ | ⟨-, h⟩
  · cases h; exact ⟨rfl, rfl⟩
  rcases ite_eq_iff.mp h with ⟨⟨rfl, rfl, rfl⟩, h⟩ | ⟨hcxOn, h⟩
  · cases h; exact ⟨rfl, encode_statusCxOn n3 n4 n5⟩
  rcases ite_eq_iff.mp h with ⟨⟨rfl, rfl, rfl⟩, h⟩ | ⟨hcxOff, h⟩
  · cases h; exact ⟨rfl, encode_statusCxOff n3 n4 n5⟩
  rcases ite_eq_iff.mp h with ⟨⟨rfl, rfl, rfl⟩, h⟩ | ⟨htimecode, h⟩
  · cases h; exact ⟨rfl, encode_timecode n1 n4 n5⟩
  rcases ite_eq_iff.mp h with ⟨rfl, h⟩ | ⟨-, h⟩
  · cases h
    have hwf : Instr.wfPicno n2 n3 = true := wfPicno_iff.mpr fun hfiller => htimecode ⟨rfl, hfiller⟩
    exact ⟨hwf, by rw [encode_picno, nibble_eq_bit_append]⟩
  rcases ite_eq_iff.mp h with ⟨⟨rfl, rfl⟩, h⟩ | ⟨hclvsec, h⟩
  · cases h
    have hwf : Instr.wfClvsec n1 n3 n4 n5 = true :=
      wfClvsec_iff.mpr fun ⟨h1, h345⟩ => hleadout ⟨rfl, h1, rfl, h345⟩
    exact ⟨hwf, encode_clvsec n1 n3 n4 n5⟩
  rcases ite_eq_iff.mp h with ⟨⟨rfl, rfl⟩, h⟩ | ⟨husercode, h⟩
  · cases h; exact ⟨rfl, encode_usercode n1 n3 n4 n5⟩
  rcases ite_eq_iff.mp h with ⟨⟨rfl, rfl, rfl, rfl⟩, h⟩ | ⟨-, h⟩
  · cases h
    have hwf : Instr.wfChapter (n1.extractLsb' 3 1) (n1.extractLsb' 0 3) n2 = true := by
      rw [wfChapter_iff, nibble_eq_bit_append]
      exact ⟨fun e => husercode ⟨rfl, e⟩, fun e => hclvsec ⟨rfl, e⟩, fun e => hcxOn ⟨rfl, e⟩, fun e => hcxOff ⟨rfl, e⟩⟩
    exact ⟨hwf, by rw [encode_chapter, nibble_eq_bit_append]⟩
  · cases h

/-- Settles O4: a command word by its fields, a line code by its nibbles. -/
theorem encodeOfDecode : Obligations.EncodeOfDecode := by
  rintro (c | w) i h
  · have hencode : encode i = .command c := encode_of_decodeCommand h
    exact ⟨wf_of_encode_command hencode, hencode⟩
  · exact wf_and_encode_of_decodeLine h

/-- Decoding and encoding are inverse between the words that decode and the well-formed instructions. -/
theorem decode_eq_ok_iff {w : CodeWord} {i : Instr} : decode w = .ok i ↔ i.wf = true ∧ encode i = w :=
  ⟨encodeOfDecode w i, fun ⟨hwf, hencode⟩ => hencode ▸ decodeOfEncode i hwf⟩

/-! ### The opcode map (30 R83, R84, R85) -/

theorem decodeCommand_eq_ok_iff {c : Word} {i : Instr} : decodeCommand c = .ok i ↔ encode i = .command c :=
  ⟨encode_of_decodeCommand, fun h => decode_eq_ok_iff.mpr ⟨wf_of_encode_command h, h⟩⟩

/-- A word matches the row of `VENC` when only bit 8 is free (30 R82, R83). -/
theorem encode_venc_eq_iff {p : BitVec 1} {c : Word} :
    encode (.venc p) = .command c ↔ c &&& 0xFFFFFEFF#32 = 0x00000004#32 ∧ p = c.extractLsb' 8 1 := by
  constructor
  · intro h
    cases h
    revert p
    decide
  · rintro ⟨hmask, rfl⟩
    have hrsv : c.extractLsb' 9 23 &&& BitVec.allOnes 23 = 0#23 :=
      BitVec.extractLsb'_and.symm.trans (congrArg (BitVec.extractLsb' 9 23) hmask)
    have hop : c.extractLsb' 0 8 &&& BitVec.allOnes 8 = 0x04#8 :=
      BitVec.extractLsb'_and.symm.trans (congrArg (BitVec.extractLsb' 0 8) hmask)
    rw [BitVec.and_allOnes] at hrsv hop
    conv_rhs => rw [commandWord_eq_fields c, hrsv, hop]
    rfl

/-- The legal command words are the encodings of the commands, `VENC` with two (30 R83). -/
theorem mem_legalWords_iff {c : Word} :
    c ∈ [0x00000000#32, 0x00000001#32, 0x00000002#32, 0x00000003#32, 0x00000004#32, 0x00000104#32, 0x0000000F#32] ↔
      ∃ i, encode i = .command c := by
  constructor
  · intro h
    simp only [List.mem_cons, List.not_mem_nil, or_false] at h
    rcases h with rfl | rfl | rfl | rfl | rfl | rfl | rfl
    · exact ⟨.nop, rfl⟩
    · exact ⟨.cfg, rfl⟩
    · exact ⟨.decf, rfl⟩
    · exact ⟨.vdec, rfl⟩
    · exact ⟨.venc 0#1, rfl⟩
    · exact ⟨.venc 1#1, rfl⟩
    · exact ⟨.srst, rfl⟩
  · rintro ⟨i, h⟩
    cases i with
    | nop | cfg | decf | vdec | srst => cases h; decide
    | venc p => cases h; revert p; decide
    | _ => cases h

/-- Settles O1: a word decodes to a command exactly when it is that command's encoding. -/
theorem commandDecodeIsOpcodeMap : Obligations.CommandDecodeIsOpcodeMap := by
  intro c
  have hplain : ∀ {i : Instr} {w : Word}, encode i = .command w → (decodeCommand c = .ok i ↔ c = w) := fun h => by
    rw [decodeCommand_eq_ok_iff, h, CodeWord.command.injEq, eq_comm]
  refine ⟨hplain rfl, hplain rfl, hplain rfl, hplain rfl, fun p => ?_, hplain rfl, ?_⟩
  · rw [decodeCommand_eq_ok_iff, encode_venc_eq_iff]
  · simp only [mem_legalWords_iff, ne_eq, decodeCommand_eq_ok_iff, not_exists]

/-- Settles O5: each word is decoded by evaluation. -/
theorem decodedWordsOfSpec : Obligations.DecodedWordsOfSpec :=
  ⟨rfl, rfl, rfl, rfl, rfl, rfl, rfl, rfl, rfl, rfl⟩

end Sys2Proof.Proofs
end

section
/-! PROOFS. The formats of the line codes (30_encoding.md R91 to R100): the fields and digits of the statements' plain
arithmetic are those of the model, and a valid word is read in its format. -/

namespace Sys2Proof.Proofs

open Sys2Proof.Machine

/-! ### The digits of a line code as numbers (30 R91) -/

section Digits

variable (n0 n1 n2 n3 n4 n5 : BitVec 4)

theorem lineOf_digit0 : (lineOf n0 n1 n2 n3 n4 n5).toNat / 0x100000 = n0.toNat := by
  rw [lineOf_toNat]; omega

theorem lineOf_digit1 : (lineOf n0 n1 n2 n3 n4 n5).toNat / 0x10000 % 16 = n1.toNat := by
  rw [lineOf_toNat]; omega

theorem lineOf_digit1_low : (lineOf n0 n1 n2 n3 n4 n5).toNat / 0x10000 % 8 = (n1.extractLsb' 0 3).toNat := by
  rw [lineOf_toNat, extractLsb'_toNat_eq_div_mod]; omega

theorem lineOf_digit2 : (lineOf n0 n1 n2 n3 n4 n5).toNat / 0x1000 % 16 = n2.toNat := by
  rw [lineOf_toNat]; omega

theorem lineOf_digit3 : (lineOf n0 n1 n2 n3 n4 n5).toNat / 0x100 % 16 = n3.toNat := by
  rw [lineOf_toNat]; omega

theorem lineOf_digit4 : (lineOf n0 n1 n2 n3 n4 n5).toNat / 0x10 % 16 = n4.toNat := by
  rw [lineOf_toNat]; omega

theorem lineOf_digit5 : (lineOf n0 n1 n2 n3 n4 n5).toNat % 16 = n5.toNat := by
  rw [lineOf_toNat]; omega

theorem lineOf_digits23 : (lineOf n0 n1 n2 n3 n4 n5).toNat / 0x100 % 256 = 0x10 * n2.toNat + n3.toNat := by
  rw [lineOf_toNat]; omega

theorem lineOf_digits012 :
    (lineOf n0 n1 n2 n3 n4 n5).toNat / 0x1000 = 0x100 * n0.toNat + 0x10 * n1.toNat + n2.toNat := by
  rw [lineOf_toNat]; omega

theorem lineOf_digits345 :
    (lineOf n0 n1 n2 n3 n4 n5).toNat % 0x1000 = 0x100 * n3.toNat + 0x10 * n4.toNat + n5.toNat := by
  rw [lineOf_toNat]; omega

end Digits

/-! ### Validity and value of a format (30 R93 to R98) -/

/-- A partial value known on its domain. -/
theorem eq_ite_some {α : Type} {x : Option α} {p : Prop} [Decidable p] {v : α} (h : ∀ a, x = some a ↔ p ∧ a = v) :
    x = if p then some v else none := by
  split
  · next hp => exact (h v).mpr ⟨hp, rfl⟩
  · next hp => exact Option.eq_none_iff_forall_ne_some.mpr fun a ha => hp ((h a).mp ha).1

theorem picnoValue_eq (d4 : BitVec 3) (d3 d2 d1 d0 : BitVec 4) :
    picnoValue d4 d3 d2 d1 d0 =
      if d3.toNat ≤ 9 ∧ d2.toNat ≤ 9 ∧ d1.toNat ≤ 9 ∧ d0.toNat ≤ 9 then
        some (10000 * d4.toNat + 1000 * d3.toNat + 100 * d2.toNat + 10 * d1.toNat + d0.toNat)
      else none :=
  eq_ite_some fun _ => picnoValue_eq_some

theorem timecodeValue_eq (hr mt mu : BitVec 4) :
    timecodeValue hr mt mu =
      if hr.toNat ≤ 9 ∧ mt.toNat ≤ 5 ∧ mu.toNat ≤ 9 then some (hr.toNat, 10 * mt.toNat + mu.toNat) else none :=
  eq_ite_some fun _ => timecodeValue_eq_some

theorem chapterValue_eq (ct : BitVec 3) (cu : BitVec 4) :
    chapterValue ct cu = if cu.toNat ≤ 9 then some (10 * ct.toNat + cu.toNat) else none :=
  eq_ite_some fun _ => chapterValue_eq_some

theorem clvsecValue_eq (x1 x3 x4 x5 : BitVec 4) :
    clvsecValue x1 x3 x4 x5 =
      if 10 ≤ x1.toNat ∧ x3.toNat ≤ 9 ∧ x4.toNat ≤ 9 ∧ x5.toNat ≤ 9 then
        some (10 * (x1.toNat - 10) + x3.toNat, 10 * x4.toNat + x5.toNat)
      else none :=
  eq_ite_some fun _ => clvsecValue_eq_some

theorem usercodeValue_eq (x1 : BitVec 4) (x345 : BitVec 12) :
    usercodeValue x1 x345 = if x1.toNat ≤ 7 then some (x1 ++ x345) else none :=
  eq_ite_some fun _ => usercodeValue_eq_some

/-! ### The formats, nibble by nibble -/

section Formats

variable (n0 n1 n2 n3 n4 n5 : BitVec 4)

theorem picnoOfWord_lineOf :
    picnoOfWord (lineOf n0 n1 n2 n3 n4 n5) =
      if n0 = 15#4 then picnoValue (n1.extractLsb' 0 3) n2 n3 n4 n5 else none := by
  simp [picnoOfWord, lineOf_and_eq_iff]

theorem timecodeOfWord_lineOf :
    timecodeOfWord (lineOf n0 n1 n2 n3 n4 n5) =
      if n0 = 15#4 ∧ n2 = 13#4 ∧ n3 = 13#4 then timecodeValue n1 n4 n5 else none := by
  simp [timecodeOfWord, lineOf_and_eq_iff]

theorem chapterOfWord_lineOf :
    chapterOfWord (lineOf n0 n1 n2 n3 n4 n5) =
      if n0 = 8#4 ∧ n3 = 13#4 ∧ n4 = 13#4 ∧ n5 = 13#4 then chapterValue (n1.extractLsb' 0 3) n2 else none := by
  simp [chapterOfWord, lineOf_and_eq_iff]

theorem clvsecOfWord_lineOf :
    clvsecOfWord (lineOf n0 n1 n2 n3 n4 n5) =
      if n0 = 8#4 ∧ n2 = 14#4 then clvsecValue n1 n3 n4 n5 else none := by
  simp [clvsecOfWord, lineOf_and_eq_iff]

theorem usercodeOfWord_lineOf :
    usercodeOfWord (lineOf n0 n1 n2 n3 n4 n5) =
      if n0 = 8#4 ∧ n2 = 13#4 then usercodeValue n1 (n3 ++ n4 ++ n5) else none := by
  simp [usercodeOfWord, lineOf_and_eq_iff]

theorem statusOfWord_lineOf :
    statusOfWord (lineOf n0 n1 n2 n3 n4 n5) =
      if n0 = 8#4 ∧ n1 = 13#4 ∧ n2 = 12#4 then some true
      else if n0 = 8#4 ∧ n1 = 11#4 ∧ n2 = 10#4 then some false else none := by
  simp [statusOfWord, lineOf_and_eq_iff]

end Formats

/-! ### The formats of the statements are the model's -/

/-- A nibble is a literal exactly when its value is. -/
theorem nibble_eq_iff {n m : BitVec 4} : n = m ↔ n.toNat = m.toNat := BitVec.toNat_eq

theorem spec_picno_eq (c : LineWord) : Spec.picno c = picnoOfWord c := by
  obtain ⟨n0, n1, n2, n3, n4, n5, rfl⟩ := exists_eq_lineOf c
  simp only [Spec.picno, lineOf_digit0, lineOf_digit1_low, lineOf_digit2, lineOf_digit3, lineOf_digit4, lineOf_digit5,
    picnoOfWord_lineOf, picnoValue_eq, nibble_eq_iff, BitVec.toNat_ofNat, ite_and]

theorem spec_timecode_eq (c : LineWord) : Spec.timecode c = timecodeOfWord c := by
  obtain ⟨n0, n1, n2, n3, n4, n5, rfl⟩ := exists_eq_lineOf c
  have hfiller : 0x10 * n2.toNat + n3.toNat = 0xDD ↔ n2 = 13#4 ∧ n3 = 13#4 := by
    simp only [nibble_eq_iff, BitVec.toNat_ofNat]
    omega
  simp only [Spec.timecode, lineOf_digit0, lineOf_digits23, lineOf_digit1, lineOf_digit4, lineOf_digit5, hfiller,
    timecodeOfWord_lineOf, timecodeValue_eq, nibble_eq_iff, BitVec.toNat_ofNat, ite_and]

theorem spec_chapter_eq (c : LineWord) : Spec.chapter c = chapterOfWord c := by
  obtain ⟨n0, n1, n2, n3, n4, n5, rfl⟩ := exists_eq_lineOf c
  have hfiller : 0x100 * n3.toNat + 0x10 * n4.toNat + n5.toNat = 0xDDD ↔ n3 = 13#4 ∧ n4 = 13#4 ∧ n5 = 13#4 := by
    simp only [nibble_eq_iff, BitVec.toNat_ofNat]
    omega
  simp only [Spec.chapter, lineOf_digit0, lineOf_digits345, lineOf_digit1_low, lineOf_digit2, hfiller,
    chapterOfWord_lineOf, chapterValue_eq, nibble_eq_iff, BitVec.toNat_ofNat, ite_and]

theorem spec_clvsec_eq (c : LineWord) : Spec.clvsec c = clvsecOfWord c := by
  obtain ⟨n0, n1, n2, n3, n4, n5, rfl⟩ := exists_eq_lineOf c
  simp only [Spec.clvsec, lineOf_digit0, lineOf_digit1, lineOf_digit2, lineOf_digit3, lineOf_digit4, lineOf_digit5,
    clvsecOfWord_lineOf, clvsecValue_eq, nibble_eq_iff, BitVec.toNat_ofNat, ite_and]

/-- A user code of the statements is the number of the model's four digits. -/
theorem spec_usercode_eq (c : LineWord) : Spec.usercode c = (usercodeOfWord c).map BitVec.toNat := by
  obtain ⟨n0, n1, n2, n3, n4, n5, rfl⟩ := exists_eq_lineOf c
  have hvalue : (n1 ++ (n3 ++ n4 ++ n5)).toNat = 0x1000 * n1.toNat + (0x100 * n3.toNat + 0x10 * n4.toNat + n5.toNat) := by
    simp only [toNat_append_eq_add]
    omega
  simp only [Spec.usercode, lineOf_digit0, lineOf_digit1, lineOf_digit2, lineOf_digits345, usercodeOfWord_lineOf,
    usercodeValue_eq, apply_ite (Option.map BitVec.toNat), Option.map_some, Option.map_none, hvalue, nibble_eq_iff,
    BitVec.toNat_ofNat, ite_and]

theorem spec_statusCxOn_iff {n0 n1 n2 n3 n4 n5 : BitVec 4} :
    (lineOf n0 n1 n2 n3 n4 n5).toNat / 0x1000 = 0x8DC ↔ n0 = 8#4 ∧ n1 = 13#4 ∧ n2 = 12#4 := by
  simp only [lineOf_digits012, nibble_eq_iff, BitVec.toNat_ofNat]
  omega

theorem spec_statusCxOff_iff {n0 n1 n2 n3 n4 n5 : BitVec 4} :
    (lineOf n0 n1 n2 n3 n4 n5).toNat / 0x1000 = 0x8BA ↔ n0 = 8#4 ∧ n1 = 11#4 ∧ n2 = 10#4 := by
  simp only [lineOf_digits012, nibble_eq_iff, BitVec.toNat_ofNat]
  omega

/-- The programme status words of the statements, with their CX reading, are the model's (44 R225). -/
theorem statusOfWord_eq (c : LineWord) :
    statusOfWord c =
      if c.toNat / 0x1000 = 0x8DC then some true else if c.toNat / 0x1000 = 0x8BA then some false else none := by
  obtain ⟨n0, n1, n2, n3, n4, n5, rfl⟩ := exists_eq_lineOf c
  simp only [statusOfWord_lineOf, spec_statusCxOn_iff, spec_statusCxOff_iff]

theorem statusOfWord_eq_none_iff {c : LineWord} : statusOfWord c = none ↔ ¬Spec.isStatus c := by
  simp only [statusOfWord_eq, ite_eq_iff, reduceCtorEq, and_false, and_true, false_or, not_or]

/-! ### A valid word is read in its format (30 R92 to R100) -/

theorem decodeLine_of_picno {w : LineWord} (h : (Spec.picno w).isSome = true) :
    decodeLine w =
      .ok (.picno (w.extractLsb' 19 1) (w.extractLsb' 16 3) (w.extractLsb' 12 4) (w.extractLsb' 8 4)
        (w.extractLsb' 4 4) (w.extractLsb' 0 4)) := by
  obtain ⟨n0, n1, n2, n3, n4, n5, rfl⟩ := exists_eq_lineOf w
  obtain ⟨n, hn⟩ := Option.isSome_iff_exists.mp h
  rw [spec_picno_eq, picnoOfWord_lineOf, Option.ite_none_right_eq_some, picnoValue_eq_some] at hn
  obtain ⟨rfl, ⟨hd3, -⟩, -⟩ := hn
  have hwf : Instr.wfPicno n2 n3 = true := wfPicno_iff.mpr fun ⟨hfiller, _⟩ => by
    subst hfiller
    exact absurd hd3 (by decide)
  simpa using decodeLine_picno (s19 := n1.extractLsb' 3 1) (d4 := n1.extractLsb' 0 3) n4 n5 hwf

theorem decodeLine_of_timecode {w : LineWord} (h : (Spec.timecode w).isSome = true) :
    decodeLine w = .ok (.timecode (w.extractLsb' 16 4) (w.extractLsb' 4 4) (w.extractLsb' 0 4)) := by
  obtain ⟨n0, n1, n2, n3, n4, n5, rfl⟩ := exists_eq_lineOf w
  obtain ⟨t, ht⟩ := Option.isSome_iff_exists.mp h
  rw [spec_timecode_eq, timecodeOfWord_lineOf, Option.ite_none_right_eq_some] at ht
  obtain ⟨⟨rfl, rfl, rfl⟩, -⟩ := ht
  simpa using decodeLine_timecode n1 n4 n5

theorem decodeLine_of_chapter {w : LineWord} (h : (Spec.chapter w).isSome = true) :
    decodeLine w = .ok (.chapter (w.extractLsb' 19 1) (w.extractLsb' 16 3) (w.extractLsb' 12 4)) := by
  obtain ⟨n0, n1, n2, n3, n4, n5, rfl⟩ := exists_eq_lineOf w
  obtain ⟨n, hn⟩ := Option.isSome_iff_exists.mp h
  rw [spec_chapter_eq, chapterOfWord_lineOf, Option.ite_none_right_eq_some, chapterValue_eq_some] at hn
  obtain ⟨⟨rfl, rfl, rfl, rfl⟩, hunits, -⟩ := hn
  have hdigit : ∀ d : BitVec 4, 9 < d.toNat → n2 ≠ d := fun d hd hn2 => by
    rw [hn2] at hunits
    omega
  have hwf : Instr.wfChapter (n1.extractLsb' 3 1) (n1.extractLsb' 0 3) n2 = true :=
    wfChapter_iff.mpr ⟨hdigit _ (by decide), hdigit _ (by decide), fun hcxOn => hdigit _ (by decide) hcxOn.2,
      fun hcxOff => hdigit _ (by decide) hcxOff.2⟩
  simpa using decodeLine_chapter hwf

theorem decodeLine_of_clvsec {w : LineWord} (h : (Spec.clvsec w).isSome = true) :
    decodeLine w =
      .ok (.clvsec (w.extractLsb' 16 4) (w.extractLsb' 8 4) (w.extractLsb' 4 4) (w.extractLsb' 0 4)) := by
  obtain ⟨n0, n1, n2, n3, n4, n5, rfl⟩ := exists_eq_lineOf w
  obtain ⟨t, ht⟩ := Option.isSome_iff_exists.mp h
  rw [spec_clvsec_eq, clvsecOfWord_lineOf, Option.ite_none_right_eq_some, clvsecValue_eq_some] at ht
  obtain ⟨⟨rfl, rfl⟩, ⟨hsecond, -⟩, -⟩ := ht
  have hwf : Instr.wfClvsec n1 n3 n4 n5 = true := wfClvsec_iff.mpr fun ⟨hleadout, _⟩ => by
    subst hleadout
    exact absurd hsecond (by decide)
  simpa using decodeLine_clvsec hwf

theorem decodeLine_of_usercode {w : LineWord} (h : (Spec.usercode w).isSome = true) :
    decodeLine w = .ok (.usercode (w.extractLsb' 16 4) (w.extractLsb' 0 12)) := by
  obtain ⟨n0, n1, n2, n3, n4, n5, rfl⟩ := exists_eq_lineOf w
  rw [spec_usercode_eq, Option.isSome_map] at h
  obtain ⟨u, hu⟩ := Option.isSome_iff_exists.mp h
  rw [usercodeOfWord_lineOf, Option.ite_none_right_eq_some] at hu
  obtain ⟨⟨rfl, rfl⟩, -⟩ := hu
  simpa using decodeLine_usercode n1 n3 n4 n5

theorem decodeLine_of_statusCxOn {w : LineWord} (h : w.toNat / 0x1000 = 0x8DC) :
    decodeLine w = .ok (.statusCxOn (w.extractLsb' 8 4) (w.extractLsb' 4 4) (w.extractLsb' 0 4)) := by
  obtain ⟨n0, n1, n2, n3, n4, n5, rfl⟩ := exists_eq_lineOf w
  obtain ⟨rfl, rfl, rfl⟩ := spec_statusCxOn_iff.mp h
  simpa using decodeLine_statusCxOn n3 n4 n5

theorem decodeLine_of_statusCxOff {w : LineWord} (h : w.toNat / 0x1000 = 0x8BA) :
    decodeLine w = .ok (.statusCxOff (w.extractLsb' 8 4) (w.extractLsb' 4 4) (w.extractLsb' 0 4)) := by
  obtain ⟨n0, n1, n2, n3, n4, n5, rfl⟩ := exists_eq_lineOf w
  obtain ⟨rfl, rfl, rfl⟩ := spec_statusCxOff_iff.mp h
  simpa using decodeLine_statusCxOff n3 n4 n5

/-! ### A word of no row is rejected (30 R99) -/

/-- A row of the decoder rejects a word when the word does not match it and the rows after it reject the word. -/
theorem forall_ite_ok_ne_iff {p : Prop} [Decidable p] {j : Instr} {rest : Except DecodeError Instr} :
    (∀ i, (if p then .ok j else rest) ≠ .ok i) ↔ ¬p ∧ ∀ i, rest ≠ .ok i := by
  split
  · next hp => exact ⟨fun h => absurd rfl (h j), fun h => absurd hp h.1⟩
  · next hp => exact ⟨fun h => ⟨hp, h⟩, fun h => h.2⟩

/-- A mask of all ones leaves the sentinels as they are (30 R92). -/
theorem and_ones_lineWord (w : LineWord) : w &&& 0xFFFFFF#24 = w := BitVec.and_allOnes

theorem decodeLine_rejects_iff (w : LineWord) :
    (∀ i, decodeLine w ≠ .ok i) ↔
      w ≠ 0x88FFFF#24 ∧ w ≠ 0x80EEEE#24 ∧ w ≠ 0x82CFFF#24 ∧ w ≠ 0x87FFFF#24 ∧
        w &&& 0xFFF000#24 ≠ 0x8DC000#24 ∧ w &&& 0xFFF000#24 ≠ 0x8BA000#24 ∧ w &&& 0xF0FF00#24 ≠ 0xF0DD00#24 ∧
        w &&& 0xF00000#24 ≠ 0xF00000#24 ∧ w &&& 0xF0F000#24 ≠ 0x80E000#24 ∧ w &&& 0xF0F000#24 ≠ 0x80D000#24 ∧
        w &&& 0xF00FFF#24 ≠ 0x800DDD#24 := by
  simp only [decodeLine, forall_ite_ok_ne_iff, matchesRow_iff, and_ones_lineWord, ne_eq, reduceCtorEq,
    not_false_eq_true, implies_true, and_true]

/-- Settles O2: a valid word has the nibbles of its own row and of none read before it; a rejected word matches no row,
in the decoder's order or in the statement's. -/
theorem lineCodesReadInTheirFormats : Obligations.LineCodesReadInTheirFormats := by
  intro w
  refine ⟨fun h => h ▸ rfl, fun h => h ▸ rfl, fun h => h ▸ rfl, fun h => h ▸ rfl, decodeLine_of_picno,
    decodeLine_of_timecode, decodeLine_of_chapter, decodeLine_of_clvsec, decodeLine_of_statusCxOn,
    decodeLine_of_statusCxOff, decodeLine_of_usercode, ?_⟩
  rw [decodeLine_rejects_iff]
  tauto

end Sys2Proof.Proofs
end

section
/-! PROOFS. The line codes as instructions (44_vbi_decode.md R215 to R229; log 3), and the words and states on which
nothing happens (40_commands.md R111, 30_encoding.md R99). -/

namespace Sys2Proof.Proofs

open Sys2Proof.Machine

/-! ### The record operations -/

/-- Outside the fault state a line code rewrites the record. -/
theorem recordStep_of_noFault {s : State} (h : s.status.fault = false) (f : VbiRec → VbiRec) :
    recordStep s f = .next { s with vr := f s.vr } := by
  rw [recordStep_eq, h]
  rfl

/-- Lead-in or lead-out, as the statements and as the model say it (44 R210). -/
theorem leadInOut_iff {r : VbiRec} : r.leadInOut = true ↔ Spec.inLead r := by
  rw [VbiRec.leadInOut, Bool.or_eq_true]
  rfl

/-- In lead-in or lead-out the steps 2 to 7 of `VDEC` leave the record (44 R214). -/
theorem unlessLead_of_inLead {r : VbiRec} (h : Spec.inLead r) (f : VbiRec → VbiRec) : r.unlessLead f = r :=
  if_pos (leadInOut_iff.mpr h)

theorem unlessLead_of_not_inLead {r : VbiRec} (h : ¬Spec.inLead r) (f : VbiRec → VbiRec) : r.unlessLead f = f r :=
  if_neg fun hlead => h (leadInOut_iff.mp hlead)

/-- A valid word sets what its format sets, an invalid one nothing (30 R99). -/
theorem applyFound_ite {α : Type} (r : VbiRec) (p : Prop) [Decidable p] (v : α) (f : VbiRec → α → VbiRec) :
    r.applyFound (if p then some v else none) f = if p then f r v else r := by
  split <;> rfl

/-- A number the record can hold is not the absent one (10_state.md R41). -/
theorem ofNat_ne_absent {n : Nat} (h : n < 0xFFFFFFFF) : BitVec.ofNat 32 n ≠ absent := fun he => by
  have hn : n % 2 ^ 32 = 0xFFFFFFFF := congrArg BitVec.toNat he
  omega

/-- A picture number makes the disc CAV, whatever the marker (44 R217). -/
theorem settleType_withPicno (r : VbiRec) {n : Nat} (h : n < 0xFFFFFFFF) (marker : Bool) :
    (r.withPicno n).settleType marker = { r with discType := typeCav, picNo := BitVec.ofNat 32 n } := by
  rw [VbiRec.settleType, VbiRec.withPicno_picNo, if_pos (ofNat_ne_absent h)]
  rfl

/-- A time code without a picture number makes the disc CLV (44 R217). -/
theorem settleType_withTimecode {r : VbiRec} (hpicno : r.picNo = absent) {t : Nat × Nat} (h : t.1 < 0xFFFFFFFF)
    (marker : Bool) :
    (r.withTimecode t).settleType marker =
      { r with discType := typeClv, clvHr := BitVec.ofNat 32 t.1, clvMin := BitVec.ofNat 32 t.2 } := by
  rw [VbiRec.settleType, VbiRec.withTimecode_picNo, VbiRec.withTimecode_clvHr, if_neg (not_not.mpr hpicno),
    if_pos (.inl (ofNat_ne_absent h))]
  rfl

/-! ### The numeric line codes (44 R215, R216, R218, R220) -/

section Numeric

variable {s : State} (hfault : s.status.fault = false)
include hfault

/-- A line code of steps 2 to 7 does nothing in lead-in or lead-out. -/
theorem recordStep_unlessLead_of_inLead (hlead : Spec.inLead s.vr) (f : VbiRec → VbiRec) :
    recordStep s (fun r => r.unlessLead f) = .next s := by
  rw [recordStep_of_noFault hfault, unlessLead_of_inLead hlead]

theorem recordStep_unlessLead_of_not_inLead (hlead : ¬Spec.inLead s.vr) (f : VbiRec → VbiRec) :
    recordStep s (fun r => r.unlessLead f) = .next { s with vr := f s.vr } := by
  rw [recordStep_of_noFault hfault, unlessLead_of_not_inLead hlead]

theorem execPicno_eq (hlead : ¬Spec.inLead s.vr) (s19 : BitVec 1) (d4 : BitVec 3) (d3 d2 d1 d0 : BitVec 4) :
    execPicno s19 d4 d3 d2 d1 d0 s =
      if d3.toNat ≤ 9 ∧ d2.toNat ≤ 9 ∧ d1.toNat ≤ 9 ∧ d0.toNat ≤ 9 then
        .next { s with
          vr := { s.vr with
            discType := typeCav
            picNo := BitVec.ofNat 32
              (10000 * d4.toNat + 1000 * d3.toNat + 100 * d2.toNat + 10 * d1.toNat + d0.toNat) } }
      else .next s := by
  rw [execPicno, recordStep_unlessLead_of_not_inLead hfault hlead, picnoValue_eq, applyFound_ite]
  split
  · rw [settleType_withPicno _ (by omega)]
  · rfl

theorem execTimecode_eq (hlead : ¬Spec.inLead s.vr) (hr mt mu : BitVec 4) :
    execTimecode hr mt mu s =
      if s.vr.picNo = absent ∧ hr.toNat ≤ 9 ∧ mt.toNat ≤ 5 ∧ mu.toNat ≤ 9 then
        .next { s with
          vr := { s.vr with
            discType := typeClv
            clvHr := BitVec.ofNat 32 hr.toNat
            clvMin := BitVec.ofNat 32 (10 * mt.toNat + mu.toNat) } }
      else .next s := by
  rw [execTimecode, recordStep_unlessLead_of_not_inLead hfault hlead, timecodeValue_eq, applyFound_ite, ← ite_and]
  split
  · next h => rw [settleType_withTimecode h.1 (by omega)]
  · rfl

theorem execChapter_eq (hlead : ¬Spec.inLead s.vr) (c19 : BitVec 1) (ct : BitVec 3) (cu : BitVec 4) :
    execChapter c19 ct cu s =
      if cu.toNat ≤ 9 then .next { s with vr := { s.vr with chNo := BitVec.ofNat 32 (10 * ct.toNat + cu.toNat) } }
      else .next s := by
  rw [execChapter, recordStep_unlessLead_of_not_inLead hfault hlead, chapterValue_eq, applyFound_ite]
  split <;> rfl

theorem execClvsec_eq (hlead : ¬Spec.inLead s.vr) (x1 x3 x4 x5 : BitVec 4) :
    execClvsec x1 x3 x4 x5 s =
      if 10 ≤ x1.toNat ∧ x3.toNat ≤ 9 ∧ x4.toNat ≤ 9 ∧ x5.toNat ≤ 9 then
        .next { s with
          vr := { s.vr with
            clvSec := BitVec.ofNat 32 (10 * (x1.toNat - 10) + x3.toNat)
            clvPicNo := BitVec.ofNat 32 (10 * x4.toNat + x5.toNat) } }
      else .next s := by
  rw [execClvsec, recordStep_unlessLead_of_not_inLead hfault hlead, clvsecValue_eq, applyFound_ite]
  split <;> rfl

end Numeric

/-- Settles O46: in lead-in or lead-out the record is left, else each format's value is applied if it is valid. -/
theorem numericLineCodes : Obligations.NumericLineCodes := by
  intro s hfault s19 c19 d4 ct d3 d2 d1 d0 hr mt mu cu x1 x3 x4 x5
  refine ⟨fun hlead => ?_, fun hlead => ?_⟩
  · have hkept := recordStep_unlessLead_of_inLead hfault hlead
    exact ⟨hkept _, hkept _, hkept _, hkept _⟩
  · exact ⟨execPicno_eq hfault hlead s19 d4 d3 d2 d1 d0, execTimecode_eq hfault hlead hr mt mu,
      execChapter_eq hfault hlead c19 ct cu, execClvsec_eq hfault hlead x1 x3 x4 x5⟩

/-! ### The programme status (44 R225, R226, R227) -/

/-- Bit `k` of a nibble as a number. -/
theorem toNat_getLsbD {n : Nat} (x : BitVec n) (k : Nat) : (x.getLsbD k).toNat = x.toNat / 2 ^ k % 2 :=
  Nat.toNat_testBit x.toNat k

/-- `AUD` of the statements is the model's table, row by row (44 R227). -/
theorem audioTable_eq (a : BitVec 4) :
    Spec.aud.getD a.toNat (0, 0, 0) =
      ((audioTable a).1.toNat, (audioTable a).2.1.toNat, (audioTable a).2.2.toNat) := by
  revert a
  decide

/-- `AUD2` of the statements is the model's table, row by row (44 R227). -/
theorem audioTableAm2_eq (b : BitVec 3) : Spec.aud2.getD b.toNat 0 = (audioTableAm2 b).toNat := by
  revert b
  decide

/-- `a = 8 * x41 + 4 * x34 + 2 * x42 + x43` (44 R227). -/
theorem audioIndex_toNat (x3 x4 : BitVec 4) :
    (audioIndex x3 x4).toNat =
      8 * (x4.toNat / 2 ^ 3 % 2) + 4 * (x3.toNat / 2 ^ 0 % 2) + 2 * (x4.toNat / 2 ^ 2 % 2) + x4.toNat / 2 ^ 1 % 2 := by
  simp only [audioIndex, toNat_append_eq_add, BitVec.toNat_ofBool, toNat_getLsbD]
  omega

/-- `b = 4 * x42 + 2 * x43 + x44` (44 R227). -/
theorem audioIndexAm2_toNat (x4 : BitVec 4) : (audioIndexAm2 x4).toNat = x4.toNat % 8 := by
  rw [audioIndexAm2, extractLsb'_toNat_eq_div_mod]
  omega

/-- An even-parity equation over four bits, as a sum (44 R227). -/
theorem even_parity_iff (a b c d : Bool) :
    ((a ^^ b ^^ c ^^ d) == false) = true ↔ (a.toNat + b.toNat + c.toNat + d.toNat) % 2 = 0 := by
  revert a b c d
  decide

theorem parityOk_iff (x4 x5 : BitVec 4) :
    parityOk x4 x5 = true ↔
      (x5.toNat / 2 ^ 3 % 2 + x4.toNat / 2 ^ 3 % 2 + x4.toNat / 2 ^ 2 % 2 + x4.toNat / 2 ^ 0 % 2) % 2 = 0 ∧
      (x5.toNat / 2 ^ 2 % 2 + x4.toNat / 2 ^ 3 % 2 + x4.toNat / 2 ^ 1 % 2 + x4.toNat / 2 ^ 0 % 2) % 2 = 0 ∧
      (x5.toNat / 2 ^ 1 % 2 + x4.toNat / 2 ^ 2 % 2 + x4.toNat / 2 ^ 1 % 2 + x4.toNat / 2 ^ 0 % 2) % 2 = 0 := by
  simp only [parityOk, Bool.and_eq_true, even_parity_iff, toNat_getLsbD, and_assoc]

theorem toNat_not (b : Bool) : (!b).toNat = 1 - b.toNat := by
  cases b <;> rfl

/-- The ten status flags as a sum: `cx` in bit 0, then the bits of the word and of the tables (44 R225, R226). -/
theorem statusFlags_toNat (cxOn : Bool) (x3 x4 x5 : BitVec 4) :
    (statusFlags cxOn x3 x4 x5).toNat =
      cxOn.toNat + 2 * ((1 - x3.toNat / 2 ^ 3 % 2) + 2 * (1 - x3.toNat / 2 ^ 2 % 2) + 4 * (x3.toNat / 2 ^ 1 % 2)
        + 8 * (audioTable (audioIndex x3 x4)).1.toNat + 16 * (audioTable (audioIndex x3 x4)).2.1.toNat
        + 32 * (x4.toNat / 2 ^ 3 % 2) + 64 * (parityOk x4 x5).toNat + 128 * (x3.toNat / 2 ^ 0 % 2)
        + 256 * (x4.toNat / 2 ^ 3 % 2)) := by
  simp only [statusFlags, toNat_append_eq_add, BitVec.toNat_ofBool, toNat_not, toNat_getLsbD]
  omega

theorem statusSound_toNat (x3 x4 : BitVec 4) :
    (statusSound x3 x4).toNat =
      (audioTable (audioIndex x3 x4)).2.2.toNat + 16 * (audioTableAm2 (audioIndexAm2 x4)).toNat := by
  rw [statusSound, toNat_append_eq_add]
  omega

/-- The two forms of the status word differ in `cx` alone (44 R225). -/
theorem statusFlags_cxOff (x3 x4 x5 : BitVec 4) :
    statusFlags false x3 x4 x5 = statusFlags true x3 x4 x5 &&& (BitVec.allOnes 9 ++ 0#1) := by
  simp only [statusFlags]
  rw [BitVec.and_append, BitVec.and_allOnes]
  rfl

/-- `VR_FLAGS` after a programme status word: the ten status flags over the three that are kept (44 R225). -/
def flagsAfterStatus (r : VbiRec) (cxOn : Bool) (x3 x4 x5 : BitVec 4) : BitVec 13 :=
  statusFlags cxOn x3 x4 x5 ++ r.flags.extractLsb' 0 3

theorem withStatus_eq (r : VbiRec) (cxOn : Bool) (x3 x4 x5 : BitVec 4) :
    r.withStatus cxOn x3 x4 x5 =
      { r with flags := flagsAfterStatus r cxOn x3 x4 x5, sound := statusSound x3 x4 } := rfl

theorem flagsAfterStatus_cxOff (r : VbiRec) (x3 x4 x5 : BitVec 4) :
    flagsAfterStatus r false x3 x4 x5 = flagsAfterStatus r true x3 x4 x5 &&& 0x1FF7#13 := by
  have hmask : 0x1FF7#13 = (BitVec.allOnes 9 ++ 0#1) ++ BitVec.allOnes 3 := by decide
  rw [hmask, flagsAfterStatus, flagsAfterStatus, BitVec.and_append, BitVec.and_allOnes, ← statusFlags_cxOff]

theorem flagsAfterStatus_toNat (r : VbiRec) (cxOn : Bool) (x3 x4 x5 : BitVec 4) :
    (flagsAfterStatus r cxOn x3 x4 x5).toNat = 8 * (statusFlags cxOn x3 x4 x5).toNat + r.flags.toNat % 8 := by
  rw [flagsAfterStatus, toNat_append_eq_add, extractLsb'_toNat_eq_div_mod]
  omega

/-- `cx` is bit 3 (10 R42). -/
theorem flagsAfterStatus_cx (r : VbiRec) (cxOn : Bool) (x3 x4 x5 : BitVec 4) :
    (flagsAfterStatus r cxOn x3 x4 x5).getLsbD 3 = cxOn := by
  have hcx := cxOn.toNat_lt
  rw [Bool.eq_iff_iff, ← Bool.toNat_eq_one, ← Bool.toNat_eq_one, toNat_getLsbD, flagsAfterStatus_toNat,
    statusFlags_toNat]
  omega

theorem execStatusCxOn_eq {s : State} (hfault : s.status.fault = false) (x3 x4 x5 : BitVec 4) :
    execStatusCxOn x3 x4 x5 s =
      .next { s with vr := { s.vr with flags := flagsAfterStatus s.vr true x3 x4 x5, sound := statusSound x3 x4 } } := by
  rw [execStatusCxOn, recordStep_of_noFault hfault, withStatus_eq]

theorem execStatusCxOff_eq {s : State} (hfault : s.status.fault = false) (x3 x4 x5 : BitVec 4) :
    execStatusCxOff x3 x4 x5 s =
      .next { s with
        vr := { s.vr with flags := flagsAfterStatus s.vr true x3 x4 x5 &&& 0x1FF7#13, sound := statusSound x3 x4 } } := by
  rw [execStatusCxOff, recordStep_of_noFault hfault, withStatus_eq, flagsAfterStatus_cxOff]

/-! ### The user code (44 R229) -/

theorem withUsercode_eq (r : VbiRec) (x1 : BitVec 4) (x345 : BitVec 12) :
    r.withUsercode (x1 ++ x345) =
      { r with userCode := BitVec.ofNat 17 (0x10000 + 0x1000 * x1.toNat + x345.toNat) } := by
  have hvalue : 1#1 ++ (x1 ++ x345) = BitVec.ofNat 17 (0x10000 + 0x1000 * x1.toNat + x345.toNat) :=
    BitVec.eq_of_toNat_eq (by
      simp only [toNat_append_eq_add, BitVec.toNat_ofNat]
      omega)
  rw [VbiRec.withUsercode, hvalue]

theorem execUsercode_of_not_inLead {s : State} (hfault : s.status.fault = false) (hlead : ¬Spec.inLead s.vr)
    (x1 : BitVec 4) (x345 : BitVec 12) : execUsercode x1 x345 s = .next s := by
  rw [execUsercode, recordStep_of_noFault hfault, if_neg fun h => hlead (leadInOut_iff.mp h)]

theorem execUsercode_of_inLead {s : State} (hfault : s.status.fault = false) (hlead : Spec.inLead s.vr)
    (x1 : BitVec 4) (x345 : BitVec 12) :
    execUsercode x1 x345 s =
      if x1.toNat ≤ 7 then
        .next { s with vr := { s.vr with userCode := BitVec.ofNat 17 (0x10000 + 0x1000 * x1.toNat + x345.toNat) } }
      else .next s := by
  rw [execUsercode, recordStep_of_noFault hfault, if_pos (leadInOut_iff.mpr hlead), usercodeValue_eq, applyFound_ite]
  split
  · rw [withUsercode_eq]
  · rfl

/-- Settles O47: the flags and the sound modes by their sums, the user code by its digits. -/
theorem statusAndUserLineCodes : Obligations.StatusAndUserLineCodes := by
  intro s hfault x1 x3 x4 x5 x345
  refine ⟨⟨flagsAfterStatus s.vr true x3 x4 x5, statusSound x3 x4, execStatusCxOn_eq hfault x3 x4 x5,
    execStatusCxOff_eq hfault x3 x4 x5, flagsAfterStatus_cx s.vr true x3 x4 x5, ?_, ?_, ?_⟩,
    fun hlead => execUsercode_of_not_inLead hfault hlead x1 x345,
    fun hlead => execUsercode_of_inLead hfault hlead x1 x345⟩
  · rw [flagsAfterStatus_toNat]
    omega
  · have hparity : (parityOk x4 x5).toNat = if parityOk x4 x5 = true then 1 else 0 := Bool.cond_eq_ite ..
    simp only [parityOk_iff] at hparity
    dsimp only
    rw [← audioIndex_toNat, audioTable_eq, ← hparity, flagsAfterStatus_toNat, statusFlags_toNat, Bool.toNat_true]
    dsimp only
    omega
  · have hindex : 8 * (x4.toNat / 8) + 4 * (x3.toNat % 2) + x4.toNat / 2 % 4 = (audioIndex x3 x4).toNat := by
      rw [audioIndex_toNat]
      omega
    rw [hindex, ← audioIndexAm2_toNat, audioTable_eq, audioTableAm2_eq, statusSound_toNat]

/-! ### Refused instructions (40 R111; log 15) -/

/-- Every instruction but `SRST` runs under the refusal rule, `unlessFault`. -/
theorem exec_of_fault {i : Instr} {s : State} (hfault : s.status.fault = true) (h : i ≠ .srst) :
    exec i s = .next s := by
  cases i with
  | srst => exact absurd rfl h
  | _ => exact if_pos hfault

/-! ### Words that no format accepts (30 R99) -/

/-- A word that `VDEC` takes for none of its sentinels and in none of its formats. -/
structure Unread (c : LineWord) : Prop where
  leadin : c ≠ leadinWord
  leadout : c ≠ leadoutWord
  stop : c ≠ stopWord
  clvmark : c ≠ clvmarkWord
  picno : picnoOfWord c = none
  timecode : timecodeOfWord c = none
  chapter : chapterOfWord c = none
  clvsec : clvsecOfWord c = none
  status : statusOfWord c = none
  usercode : usercodeOfWord c = none

/-- The words of no format of the statements are unread. -/
theorem unread_of_noFormat {c : LineWord} (h : Spec.noFormat c) : Unread c := by
  obtain ⟨hleadin, hleadout, hstop, hclvmark, hstatus, hpicno, htimecode, hchapter, hclvsec, husercode⟩ := h
  rw [spec_usercode_eq, Option.map_eq_none_iff] at husercode
  exact ⟨hleadin, hleadout, hstop, hclvmark, spec_picno_eq c ▸ hpicno, spec_timecode_eq c ▸ htimecode,
    spec_chapter_eq c ▸ hchapter, spec_clvsec_eq c ▸ hclvsec, statusOfWord_eq_none_iff.mpr hstatus, husercode⟩

theorem unread_zero : Unread 0#24 := unread_of_noFormat (by decide)

/-- Two words that `VDEC` does not tell apart: the same word, or two unread ones. -/
def ReadAlike (c d : LineWord) : Prop := c = d ∨ (Unread c ∧ Unread d)

theorem ReadAlike.refl (c : LineWord) : ReadAlike c c := .inl rfl

section ReadAlike

variable {c d : LineWord} (h : ReadAlike c d)
include h

theorem ReadAlike.picno : picnoOfWord c = picnoOfWord d :=
  h.elim (· ▸ rfl) fun ⟨hc, hd⟩ => hc.picno.trans hd.picno.symm

theorem ReadAlike.timecode : timecodeOfWord c = timecodeOfWord d :=
  h.elim (· ▸ rfl) fun ⟨hc, hd⟩ => hc.timecode.trans hd.timecode.symm

theorem ReadAlike.chapter : chapterOfWord c = chapterOfWord d :=
  h.elim (· ▸ rfl) fun ⟨hc, hd⟩ => hc.chapter.trans hd.chapter.symm

theorem ReadAlike.clvsec : clvsecOfWord c = clvsecOfWord d :=
  h.elim (· ▸ rfl) fun ⟨hc, hd⟩ => hc.clvsec.trans hd.clvsec.symm

theorem ReadAlike.usercode : usercodeOfWord c = usercodeOfWord d :=
  h.elim (· ▸ rfl) fun ⟨hc, hd⟩ => hc.usercode.trans hd.usercode.symm

/-- A programme status word is read with its nibbles (44 R225). -/
theorem ReadAlike.status :
    (statusOfWord c).map (fun cx => (c, cx)) = (statusOfWord d).map fun cx => (d, cx) :=
  h.elim (· ▸ rfl) fun ⟨hc, hd⟩ => by rw [hc.status, hd.status]; rfl

theorem ReadAlike.beq_eq {w : LineWord} (hw : ∀ x, Unread x → x ≠ w) : (c == w) = (d == w) :=
  h.elim (· ▸ rfl) fun ⟨hc, hd⟩ => by rw [beq_false_of_ne (hw c hc), beq_false_of_ne (hw d hd)]

theorem ReadAlike.leadin : (c == leadinWord) = (d == leadinWord) := h.beq_eq fun _ hx => hx.leadin

theorem ReadAlike.leadout : (c == leadoutWord) = (d == leadoutWord) := h.beq_eq fun _ hx => hx.leadout

theorem ReadAlike.stop : (c == stopWord) = (d == stopWord) := h.beq_eq fun _ hx => hx.stop

theorem ReadAlike.clvmark : (c == clvmarkWord) = (d == clvmarkWord) := h.beq_eq fun _ hx => hx.clvmark

end ReadAlike

/-- Six words that `VDEC` does not tell apart, line by line. -/
structure WordsAlike (v w : VbiWords) : Prop where
  w116 : ReadAlike v.w116 w.w116
  w117 : ReadAlike v.w117 w.w117
  w118 : ReadAlike v.w118 w.w118
  w216 : ReadAlike v.w216 w.w216
  w217 : ReadAlike v.w217 w.w217
  w218 : ReadAlike v.w218 w.w218

section WordsAlike

variable {v w : VbiWords} (h : WordsAlike v w)
include h

theorem vdecLead_congr : vdecLead v = vdecLead w := by
  funext r
  simp only [vdecLead, VbiWords.lines1718Hold, h.w117.leadin, h.w118.leadin, h.w217.leadin, h.w218.leadin,
    h.w117.leadout, h.w118.leadout, h.w217.leadout, h.w218.leadout]

theorem vdecNumeric_congr : vdecNumeric v = vdecNumeric w := by
  funext r
  have hpicno : vdecPicno v = vdecPicno w := by
    funext r
    simp only [vdecPicno, firstValid_cons, h.w117.picno, h.w118.picno]
  have htimecode : vdecTimecode v = vdecTimecode w := by
    funext r
    simp only [vdecTimecode, firstValid_cons, h.w117.timecode, h.w118.timecode]
  have htype : vdecType v = vdecType w := by
    funext r
    simp only [vdecType, h.w216.clvmark]
  have hchapter : vdecChapter v = vdecChapter w := by
    funext r
    simp only [vdecChapter, apply_ite (firstValid chapterOfWord), firstValid_cons, h.w217.chapter, h.w218.chapter]
  have hstop : vdecStop v = vdecStop w := by
    funext r
    simp only [vdecStop, h.w216.stop, h.w217.stop]
  have hclvsec : vdecClvsec v = vdecClvsec w := by
    funext r
    simp only [vdecClvsec, firstValid_cons, h.w116.clvsec, h.w216.clvsec]
  simp only [vdecNumeric, hpicno, htimecode, htype, hchapter, hstop, hclvsec]

theorem vdecStatus_congr : vdecStatus v = vdecStatus w := by
  funext r
  simp only [vdecStatus, firstStatus, firstValid_cons, h.w116.status, h.w216.status]

theorem vdecUsercode_congr : vdecUsercode v = vdecUsercode w := by
  funext r
  simp only [vdecUsercode, firstValid_cons, h.w116.usercode, h.w216.usercode]

/-- `VDEC` writes one record for words it does not tell apart. -/
theorem vdecRecord_congr : vdecRecord v = vdecRecord w := by
  simp only [vdecRecord, vdecLead_congr h, vdecNumeric_congr h, vdecStatus_congr h, vdecUsercode_congr h]

end WordsAlike

/-- Two words not told apart, written to one register, leave six words not told apart. -/
theorem wordsAlike_write (w : VbiWords) (r : VwReg) {x y : Word} (h : ReadAlike (x.setWidth 24) (y.setWidth 24)) :
    WordsAlike (w.write r x) (w.write r y) := by
  cases r with
  | w116 => exact ⟨h, .refl _, .refl _, .refl _, .refl _, .refl _⟩
  | w117 => exact ⟨.refl _, h, .refl _, .refl _, .refl _, .refl _⟩
  | w118 => exact ⟨.refl _, .refl _, h, .refl _, .refl _, .refl _⟩
  | w216 => exact ⟨.refl _, .refl _, .refl _, h, .refl _, .refl _⟩
  | w217 => exact ⟨.refl _, .refl _, .refl _, .refl _, h, .refl _⟩
  | w218 => exact ⟨.refl _, .refl _, .refl _, .refl _, .refl _, h⟩

/-- `VDEC` answers alike, but for the six words themselves, on words it does not tell apart. -/
theorem execVdec_of_wordsAlike {s t : State} {v w : VbiWords} (h : WordsAlike v w)
    (hnext : execVdec { s with vw := v } = .next t) : execVdec { s with vw := w } = .next { t with vw := w } := by
  unfold execVdec at hnext ⊢
  rcases unlessFault_eq_next.mp hnext with ⟨hfault, rfl⟩ | ⟨hfault, hrun⟩
  · exact unlessFault_eq_next.mpr (.inl ⟨hfault, rfl⟩)
  · cases hrun
    exact unlessFault_eq_next.mpr (.inr ⟨hfault, by rw [vdecRecord_congr h]⟩)

/-- Settles O48: a fault refuses every instruction but `SRST`, and a word of no format is to `VDEC` what 0 is. -/
theorem lineCodesThatChangeNothing : Obligations.LineCodesThatChangeNothing := by
  refine ⟨fun i s hfault hi => exec_of_fault hfault hi, fun s t r c hformat hnext => ?_⟩
  have hword : (c.setWidth 32).setWidth 24 = c := by
    rw [BitVec.setWidth_setWidth_of_le c (by decide), BitVec.setWidth_eq]
  have hzero : (0#32).setWidth 24 = 0#24 := rfl
  have halike : ReadAlike ((c.setWidth 32).setWidth 24) ((0#32).setWidth 24) := by
    rw [hword, hzero]
    exact .inr ⟨unread_of_noFormat hformat, unread_zero⟩
  exact execVdec_of_wordsAlike (wordsAlike_write s.vw r halike) hnext

end Sys2Proof.Proofs
end

section
/-! PROOFS. The commands as instructions: the refusal under fault, `NOP`, the checks and the latch of `CFG`, and `SRST`
(40_commands.md R111 to R119; 60_exceptions.md R269). -/

namespace Sys2Proof.Proofs

open Sys2Proof.Machine

/-! ### The port under fault (40 R111) -/

/-- Under fault a `CMD` write of any word but `SRST` is refused, whether the word is legal or not. -/
theorem commandWrite_of_fault {s : State} {c : Word} (hfault : s.status.fault = true) (hc : c ≠ 0x0000000F#32) :
    commandWrite c s = .next s := by
  unfold commandWrite
  split
  · next i hdecode => exact exec_of_fault hfault fun hi => hc (command_eq_srst (hi ▸ hdecode))
  · exact if_pos hfault

/-- A write at an index without a register is discarded (10 R27). -/
theorem step_reservedWrite {s : State} {k : Nat} {v : Word} {rest : List HostEvent} (hreserved : regAt k = none)
    (hhost : s.host = .writeReg k v :: rest) : step s = .next { s with host := rest } := by
  rw [step_of_host_cons hhost, hostEvent_writeReg_reserved _ v hreserved]

/-- Settles O8: command dispatch refuses the word, and the other transactions do not read `FAULT`. -/
theorem faultRefusesEveryCommandButSrst : Obligations.FaultRefusesEveryCommandButSrst := by
  intro s rest hfault
  refine ⟨fun c hhost hc => ?_, fun k v hhost hk => ?_, fun k => step_registerRead, fun sp k v => step_bufferWrite,
    fun sp k hhost => ?_⟩
  · rw [step_of_host_cons hhost, hostEvent_writeReg_zero]
    exact commandWrite_of_fault hfault hc
  · rcases index_cases k with ⟨r, rfl⟩ | hreserved
    · have hcmd : r ≠ .cmd := fun h => hk (congrArg RegName.index h)
      rw [step_registerWrite hcmd hhost, regAt_index]
    · rw [step_reservedWrite hreserved hhost, hreserved]
  · rw [step_bufferRead hhost, BitVec.ofNat_toNat]

/-! ### `NOP` and `SRST` (40 R112, R119) -/

/-- Settles O11: `NOP` refused and `NOP` executed answer the same state. -/
theorem nopChangesNothing : Obligations.NopChangesNothing := fun _ => ite_self _

/-- Settles O15: the refusal rule, and the reset that leaves the contents of the buffers unspecified. -/
theorem srstResets : Obligations.SrstResets :=
  ⟨fun _ hfault => ⟨exec_of_fault hfault nofun, exec_of_fault hfault nofun, exec_of_fault hfault nofun,
      exec_of_fault hfault nofun, fun _ => exec_of_fault hfault nofun⟩,
    fun s => ⟨[], [], [], s.curEpoch + 1, s.powerEpoch + 1, s.rgbEpoch + 1, rfl⟩⟩

/-! ### What `CFG` answers (40 R113 to R118) -/

/-- A `CFG` with a violation records its error and latches nothing (40 R115, R118). -/
theorem exec_cfg_of_violation {s : State} {e : ErrCode} {info : Word} (hfault : s.status.fault = false)
    (hcheck : cfgViolation s.vp = some (e, info)) : exec .cfg s = .next (Spec.raised s e.code info) := by
  change execCfg s = _
  rw [execCfg_eq hfault, hcheck]
  rfl

/-- A `CFG` without a violation latches (40 R114). -/
theorem exec_cfg_of_legal {s : State} (hfault : s.status.fault = false) (hcheck : cfgViolation s.vp = none) :
    exec .cfg s = .next s.latchConfig := by
  change execCfg s = _
  rw [execCfg_eq hfault, hcheck]

/-- Settles O12: the four conditions are those of the model's check, and `keepPrev` compares the geometries. -/
theorem cfgLatches : Obligations.CfgLatches := by
  intro s hfault hw5 hw hh1 hh ha hab hb hlevels
  have hcheck : cfgViolation s.vp = none :=
    cfgViolation_eq_none.mpr ⟨⟨hw5, hw⟩, ⟨hh1, hh⟩, ⟨ha, hab, hb⟩, hlevels⟩
  exact ⟨keepPrev s.vp.geometry s.prev, s.rgbEpoch + 1, exec_cfg_of_legal hfault hcheck, fun _ => keepPrev_eq_some⟩

/-! ### The checks of `CFG` in order (40 R116; 60 R269) -/

/-- Two half words make the word of their value. -/
theorem append_eq_ofNat (hi lo : BitVec 16) :
    (hi ++ lo : BitVec 32) = BitVec.ofNat 32 (0x10000 * hi.toNat + lo.toNat) := by
  apply BitVec.eq_of_toNat_eq
  rw [toNat_append_eq_add, BitVec.toNat_ofNat]
  omega

/-- The `ERRINFO` of a geometry error: the number of the check above the rejected value (60 R269). -/
theorem checkInfo_eq_ofNat (check value : BitVec 16) :
    check.setWidth 32 <<< 16 ||| value.setWidth 32 = BitVec.ofNat 32 (0x10000 * check.toNat + value.toNat) := by
  have hshift : (check.setWidth 32 <<< 16).toNat = check.toNat <<< 16 := by
    rw [BitVec.toNat_shiftLeft, BitVec.toNat_setWidth_of_le (by decide), Nat.shiftLeft_eq]
    omega
  rw [← append_eq_ofNat]
  apply BitVec.eq_of_toNat_eq
  rw [BitVec.toNat_append, BitVec.toNat_or, hshift, BitVec.toNat_setWidth_of_le (by decide)]

/-- The checks with their conditions and `ERRINFO` words as numbers; the third condition on the height, that the first
active line is in the frame, follows from the first (40 R116). -/
theorem cfgViolation_eq (v : VideoParams) :
    cfgViolation v =
      if ¬(5 ≤ v.fieldWidth.toNat ∧ v.fieldWidth.toNat ≤ 911) then
        some (.geometryError, BitVec.ofNat 32 (0x00010000 + v.fieldWidth.toNat))
      else if ¬(1 ≤ v.fieldHeight.toNat ∧ 2 * v.fieldHeight.toNat - 1 ≤ 526) then
        some (.geometryError, BitVec.ofNat 32 (0x00020000 + v.fieldHeight.toNat))
      else if ¬(2 ≤ v.activeStart.toNat ∧ v.activeStart.toNat < v.activeEnd.toNat ∧
          v.activeEnd.toNat + 2 ≤ v.fieldWidth.toNat) then
        some (.geometryError, BitVec.ofNat 32 (0x00030000 + v.activeStart.toNat))
      else if ¬v.black.toNat < v.white.toNat then
        some (.levelsError, BitVec.ofNat 32 (0x10000 * v.white.toNat + v.black.toNat))
      else none := by
  have hwidth := checkInfo_eq_ofNat 1#16 v.fieldWidth
  have hheight := checkInfo_eq_ofNat 2#16 v.fieldHeight
  have hstart := checkInfo_eq_ofNat 3#16 v.activeStart
  have hlevels := append_eq_ofNat v.white v.black
  have hcols : Config.maxCols = 911 := rfl
  have hlines : Config.maxLines = 526 := rfl
  have hfal : Config.fal = 0 := rfl
  refine if_congr ?width (congrArg _ (congrArg _ hwidth)) <| if_congr ?height (congrArg _ (congrArg _ hheight)) <|
    if_congr ?window (congrArg _ (congrArg _ hstart)) <| if_congr ?levels (congrArg _ (congrArg _ hlevels)) rfl
  case levels => rw [Bool.not_eq_true', decide_eq_false_iff_not]
  all_goals
    simp only [Bool.not_eq_true', Bool.and_eq_false_iff, decide_eq_false_iff_not]
    omega

/-- Settles O13: each clause selects one branch of the checks. -/
theorem cfgChecksInOrder : Obligations.CfgChecksInOrder := by
  intro s hfault w h a b bk wh ok1 ok2 ok3
  refine ⟨fun h1 => ?_, fun h1 h2 => ?_, fun h1 h2 h3 => ?_, fun h1 h2 h3 h4 => ?_, fun h1 h2 h3 h4 => ?_⟩
  · exact exec_cfg_of_violation hfault (by rw [cfgViolation_eq, if_pos h1])
  · exact exec_cfg_of_violation hfault (by rw [cfgViolation_eq, if_neg (not_not.mpr h1), if_pos h2])
  · exact exec_cfg_of_violation hfault
      (by rw [cfgViolation_eq, if_neg (not_not.mpr h1), if_neg (not_not.mpr h2), if_pos h3])
  · exact exec_cfg_of_violation hfault
      (by rw [cfgViolation_eq, if_neg (not_not.mpr h1), if_neg (not_not.mpr h2), if_neg (not_not.mpr h3), if_pos h4])
  · have hlegal : cfgViolation s.vp = none := cfgViolation_eq_none.mpr ⟨h1, h2, h3, h4⟩
    exact ⟨_, exec_cfg_of_legal hfault hlegal, hfault, rfl, rfl⟩

end Sys2Proof.Proofs
end

section
/-! PROOFS. What a `DECF` whose checks hold answers, said once, and the reading rules of the frame buffer it builds
(00_scope.md R16; 41_comb_separation.md R130, R131, R137, R140, R152). -/

namespace Sys2Proof.Proofs

open Sys2Proof.Machine

/-! ### The answer of `DECF` (41 R131, R152) -/

theorem legalPhase_iff {id : BitVec 3} : legalPhase id = true ↔ 1 ≤ id.toNat ∧ id.toNat ≤ 4 := by
  rw [legalPhase, Bool.and_eq_true, decide_eq_true_eq, decide_eq_true_eq]

/-- The conditions of the statements are the model's checks outside the fault state. -/
theorem decfReady_iff {s : State} :
    s.decfReady = true ↔ s.status.fault = false ∧ decfViolation s.beginDecf = none := by
  rw [decfViolation_eq_none, legalPhase_iff, legalPhase_iff]
  simp [State.decfReady, and_assoc]

theorem exec_decf_of_ready {s : State} (h : s.decfReady = true) : exec .decf s = .next s.beginDecf.completeDecf := by
  obtain ⟨hfault, hcheck⟩ := decfReady_iff.mp h
  change execDecf s = _
  rw [execDecf_eq hfault, hcheck]

/-- The start of the command changes nothing that the stages read, so `PREV` takes the frame buffer of the state. -/
theorem prev_completeDecf_beginDecf (s : State) : s.beginDecf.completeDecf.prev = some s.builtFrame := rfl

theorem frame3D_completeDecf_beginDecf (s : State) :
    s.beginDecf.completeDecf.status.frame3D = s.reference.isSome := rfl

/-- A `DECF` whose checks hold answers a state whose `PREV` is the frame buffer built; what is known of that frame
buffer and of `FRAME_3D` is known after the command. -/
theorem decf_builds {s : State} {P : State → FrameBuffer → Prop} (h : s.decfReady = true)
    (hP : P s.beginDecf.completeDecf s.builtFrame) :
    ∃ t f, exec .decf s = .next t ∧ t.prev = some f ∧ P t f :=
  ⟨_, _, exec_decf_of_ready h, prev_completeDecf_beginDecf s, hP⟩

/-- A `DECF` that does not complete keeps `PREV`. -/
theorem prev_of_exec_decf_of_not_ready {s t : State} (h : s.decfReady = false) (ht : exec .decf s = .next t) :
    t.prev = s.prev := by
  cases execDecf_effect ht with
  | refused | decfRaised => rfl
  | decfCompleted hfault hcheck => exact absurd (decfReady_iff.mpr ⟨hfault, hcheck⟩) (by simp [h])
  | lineCode _ _ hline => cases hline

/-! ### The previous frame of the 3D strategy (41 R134, R140) -/

theorem posEven_iff {id : BitVec 3} : posEven id = true ↔ id = 1#3 ∨ id = 4#3 := by
  simp [posEven]

theorem posEven_ne_iff {p q : BitVec 3} :
    posEven p ≠ posEven q ↔ ¬((p = 1#3 ∨ p = 4#3) ↔ (q = 1#3 ∨ q = 4#3)) := by
  rw [← posEven_iff, ← posEven_iff, ← Bool.eq_iff_iff]

/-- `use3` is the use of the present previous frame. -/
theorem reference_eq_some_iff {s : State} {g : FrameBuffer} :
    s.reference = some g ↔ s.prev = some g ∧ Spec.useThree s := by
  unfold State.reference Spec.useThree
  rw [reference3D_eq_some, posEven_ne_iff, posEven_ne_iff]
  constructor
  · rintro ⟨hprev, huse, hrest⟩
    exact ⟨hprev, huse, g, hprev, hrest⟩
  · rintro ⟨hprev, huse, f, hf, hrest⟩
    obtain rfl : g = f := Option.some.inj (hprev.symm.trans hf)
    exact ⟨hprev, huse, hrest⟩

theorem reference_isSome_iff {s : State} : s.reference.isSome = true ↔ Spec.useThree s := by
  rw [Option.isSome_iff_exists]
  constructor
  · rintro ⟨g, hg⟩
    exact (reference_eq_some_iff.mp hg).2
  · intro h
    obtain ⟨-, g, hprev, -⟩ := id h
    exact ⟨g, reference_eq_some_iff.mpr ⟨hprev, h⟩⟩

theorem reference_eq_none_iff {s : State} : s.reference = none ↔ ¬Spec.useThree s := by
  rw [← reference_isSome_iff, Bool.not_eq_true, Option.isSome_eq_false_iff, Option.isNone_iff_eq_none]

/-! ### Reading a plane of the active window (00 R16; 41 R137) -/

/-- A plane of the active window holds its function there and 0 outside, in the terms of the statements. -/
theorem planeAt_activePlane_eq (c : CombParams) (f : Nat → Nat → Int) (y x : Nat) :
    planeAt (activePlane c f) y x = if Spec.windowOf c y x then f y x else 0 := by
  rw [planeAt_activePlane]
  refine if_congr ?_ rfl rfl
  rw [c.active_iff]
  unfold CombParams.frameHeight
  tauto

theorem planeAt_activePlane_of_window {c : CombParams} {y x : Nat} (h : Spec.windowOf c y x) (f : Nat → Nat → Int) :
    planeAt (activePlane c f) y x = f y x := by
  rw [planeAt_activePlane_eq, if_pos h]

theorem planeAt_activePlane_of_not_window {c : CombParams} {y x : Nat} (h : ¬Spec.windowOf c y x)
    (f : Nat → Nat → Int) : planeAt (activePlane c f) y x = 0 := by
  rw [planeAt_activePlane_eq, if_neg h]

/-- The chroma low-pass writes nothing outside the active window. -/
theorem planeAt_lowpassI_of_not_window {c : CombParams} {v : Plane} {y x : Nat} (h : ¬Spec.windowOf c y x)
    (hv : planeAt v y x = 0) : planeAt (lowpassI c v) y x = 0 := by
  unfold lowpassI
  split
  · exact planeAt_activePlane_of_not_window h _
  · exact hv

theorem planeAt_lowpassQ_of_not_window {c : CombParams} {v : Plane} {y x : Nat} (h : ¬Spec.windowOf c y x)
    (hv : planeAt v y x = 0) : planeAt (lowpassQ c v) y x = 0 := by
  unfold lowpassQ
  split
  · exact planeAt_activePlane_of_not_window h _
  · exact hv

/-- The chroma noise reducer writes nothing outside the active window. -/
theorem planeAt_doCNR_of_not_window {c : CombParams} {v : Plane} {y x : Nat} (h : ¬Spec.windowOf c y x)
    (hv : planeAt v y x = 0) : planeAt (doCNR c v) y x = 0 := by
  unfold doCNR
  split
  · exact hv
  · exact planeAt_activePlane_of_not_window h _

/-! ### The samples of the frame (41 R132) -/

theorem length_planeTabulate (h w : Nat) (f : Nat → Nat → Int) : (planeTabulate h w f).length = h := by
  simp [planeTabulate]

/-- The element of the frame that R132 assembles: the first field on the even lines, the second on the odd ones. -/
theorem planeAt_builtFrame_raw {s : State} {y x : Nat} (hy : y < 2 * s.actVp.fieldHeight.toNat - 1)
    (hx : x < s.actVp.fieldWidth.toNat) :
    planeAt s.builtFrame.raw y x =
      if y % 2 = 0 then ((s.fieldElem false (y / 2 * s.actVp.fieldWidth.toNat + x)).toNat : Int)
      else ((s.fieldElem true ((y - 1) / 2 * s.actVp.fieldWidth.toNat + x)).toNat : Int) :=
  (planeAt_tabulate _ _ _ y x).trans (if_pos ⟨hy, hx⟩)

theorem planeAt_builtFrame_raw_range (s : State) (y x : Nat) :
    0 ≤ planeAt s.builtFrame.raw y x ∧ planeAt s.builtFrame.raw y x ≤ 65535 := by
  have hread : planeAt s.builtFrame.raw y x = _ := planeAt_tabulate _ _ _ y x
  rw [hread]
  split
  · split <;> exact sample_range _
  · decide

/-! ### Completion and assembly -/

/-- Settles O19: the completion is one record update, its `RGB` lists exactly the elements of the frame, and a `DECF`
that is refused or raises writes no `PREV`. -/
theorem decfCompletes : Obligations.DecfCompletes := by
  refine ⟨fun s h => ?_, fun s t h ht => ?_⟩
  · refine ⟨s.builtFrame, frameMemory s.params s.reference.isSome s.builtFrame, s.reference.isSome, s.curEpoch + 1,
      s.rgbEpoch + 1, exec_decf_of_ready h, reference_isSome_iff, rfl, rfl, rfl, fun k => ?_⟩
    rw [read_frameMemory, Option.isSome_ite]
    rfl
  · have hprev := prev_of_exec_decf_of_not_ready h ht
    exact ⟨hprev, by rw [State.prevValid, State.prevValid, hprev]⟩

/-- Settles O20: the raw plane is tabulated from the two fields. -/
theorem decfAssemblesFrame : Obligations.DecfAssemblesFrame := fun _ h =>
  decf_builds h ⟨length_planeTabulate _ _ _, fun _ _ => planeAt_builtFrame_raw⟩

end Sys2Proof.Proofs
end

section
/-! PROOFS. Stages 1 and 2 of `DECF` in the frame buffer it builds: the 1D, 2D and 3D estimates and the confidence; the
sign of the subcarrier, the confidence and the blend as functions (41_comb_separation.md R134, R136 to R147). -/

namespace Sys2Proof.Proofs

open Sys2Proof.Machine

/-! ### The 1D estimate (41 R136, R137) -/

theorem planeAt_clp0Plane_of_window {c : CombParams} {y x : Nat} (h : Spec.windowOf c y (x + 2)) (raw : Plane) :
    planeAt (clp0Plane c raw) y (x + 2) =
      4 * (2 * planeAt raw y (x + 2) - planeAt raw y x - planeAt raw y (x + 4)) :=
  planeAt_activePlane_of_window h _

theorem builtFrame_clp0 (s : State) : s.builtFrame.clp0 = clp0Plane s.params s.builtFrame.raw := rfl

/-- An element of the 1D plane is four times a value that three samples bound, in the window and outside. -/
theorem exists_planeAt_builtFrame_clp0 (s : State) (y x : Nat) :
    ∃ v : Int, planeAt s.builtFrame.clp0 y x = 4 * v ∧ -131070 ≤ v ∧ v ≤ 131070 := by
  rw [builtFrame_clp0, clp0Plane, planeAt_activePlane_eq, clp1D_eq]
  split
  · obtain ⟨hcentre0, hcentre1⟩ := planeAt_builtFrame_raw_range s y x
    obtain ⟨hleft0, hleft1⟩ := planeAt_builtFrame_raw_range s y (x - 2)
    obtain ⟨hright0, hright1⟩ := planeAt_builtFrame_raw_range s y (x + 2)
    exact ⟨_, rfl, by omega, by omega⟩
  · exact ⟨0, rfl, by decide, by decide⟩

/-- No stage writes an element outside the active window (41 R137). -/
theorem builtFrame_outside_window {s : State} {y x : Nat} (h : ¬Spec.inWindow s y x) :
    planeAt s.builtFrame.clp0 y x = 0 ∧ planeAt s.builtFrame.clp1 y x = 0 ∧ planeAt s.builtFrame.clp2 y x = 0 ∧
      planeAt s.builtFrame.kv y x = 0 ∧ planeAt s.builtFrame.yiqY y x = 0 ∧ planeAt s.builtFrame.yiqI y x = 0 ∧
      planeAt s.builtFrame.yiqQ y x = 0 := by
  have hzero : ∀ f, planeAt (activePlane s.params f) y x = 0 := planeAt_activePlane_of_not_window h
  refine ⟨hzero _, hzero _, ?clp2, ?kv, hzero _, ?yiqI, ?yiqQ⟩
  case clp2 =>
    change planeAt (clp2Plane _ _ s.reference) y x = 0
    cases s.reference <;> exact hzero _
  case kv =>
    change planeAt (kvPlane _ _ s.reference) y x = 0
    cases s.reference <;> exact hzero _
  case yiqI => exact planeAt_doCNR_of_not_window h (planeAt_lowpassI_of_not_window h (hzero _))
  case yiqQ => exact planeAt_doCNR_of_not_window h (planeAt_lowpassQ_of_not_window h (hzero _))

/-- Settles O21: an element of the 1D plane is the notch of its line, bounded by the samples. -/
theorem decfOneDimensional : Obligations.DecfOneDimensional := fun s h =>
  decf_builds h ⟨fun y x hw => by
    obtain ⟨v, hv, hlo, hhi⟩ := exists_planeAt_builtFrame_clp0 s y (x + 2)
    exact ⟨planeAt_clp0Plane_of_window hw _, by omega, by omega, ⟨v, hv⟩⟩,
    fun _ _ => builtFrame_outside_window⟩

/-! ### The 2D estimate (41 R138, R139) -/

theorem has2D_iff {c : CombParams} {y : Nat} : has2D c y = true ↔ 2 ≤ y ∧ y + 2 < 2 * c.height - 1 := by
  rw [has2D, Bool.and_eq_true, decide_eq_true_eq, decide_eq_true_eq]
  rfl

/-- On a line with both neighbours the second plane holds the 2D estimate. -/
theorem planeAt_clp1Plane_of_has2D {c : CombParams} {y x : Nat} (hw : Spec.windowOf c y x) (h : has2D c y = true)
    (clp0 : Plane) : planeAt (clp1Plane c clp0) y x = clp2D clp0 y x :=
  (planeAt_activePlane_of_window hw _).trans (if_pos h)

/-- On the other lines it repeats the 1D estimate. -/
theorem planeAt_clp1Plane_of_not_has2D {c : CombParams} {y x : Nat} (hw : Spec.windowOf c y x) (h : ¬has2D c y = true)
    (clp0 : Plane) : planeAt (clp1Plane c clp0) y x = planeAt clp0 y x :=
  (planeAt_activePlane_of_window hw _).trans (if_neg h)

/-- The division of the 2D estimate is exact on multiples of 4. -/
theorem clp2D_of_multiples {clp0 : Plane} {y x : Nat} {a b c : Int} (ha : planeAt clp0 y x = 4 * a)
    (hb : planeAt clp0 (y - 2) x = 4 * b) (hc : planeAt clp0 (y + 2) x = 4 * c) :
    clp2D clp0 y x = 2 * a - b - c := by
  unfold clp2D fdiv
  omega

/-- Settles O22: the 1D estimates are multiples of 4, so the quarter of their sum is exact. -/
theorem decfTwoDimensional : Obligations.DecfTwoDimensional := fun s h =>
  decf_builds h ⟨fun y x hw hy => by
    obtain ⟨a, ha, ha0, ha1⟩ := exists_planeAt_builtFrame_clp0 s (y + 2) x
    obtain ⟨b, hb, hb0, hb1⟩ := exists_planeAt_builtFrame_clp0 s y x
    obtain ⟨c, hc, hc0, hc1⟩ := exists_planeAt_builtFrame_clp0 s (y + 4) x
    have hlines : has2D s.params (y + 2) = true := has2D_iff.mpr ⟨Nat.le_add_left 2 y, hy⟩
    have hvalue : planeAt s.builtFrame.clp1 (y + 2) x = 2 * a - b - c :=
      (planeAt_clp1Plane_of_has2D hw hlines _).trans (clp2D_of_multiples ha hb hc)
    omega,
    fun y x hw hy => planeAt_clp1Plane_of_not_has2D hw (by
      rw [has2D_iff]
      change ¬(2 ≤ y ∧ y + 2 < 2 * s.actVp.fieldHeight.toNat - 1)
      omega) _⟩

/-! ### The 3D estimate and the confidence plane (41 R141, R143, R145) -/

theorem builtFrame_clp2 (s : State) : s.builtFrame.clp2 = clp2Plane s.params s.builtFrame.raw s.reference := rfl

theorem builtFrame_kv (s : State) : s.builtFrame.kv = kvPlane s.params s.builtFrame.raw s.reference := rfl

theorem planeAt_clp2Plane_some {c : CombParams} {y x : Nat} (h : Spec.windowOf c y x) (raw : Plane) (g : FrameBuffer) :
    planeAt (clp2Plane c raw (some g)) y x = 8 * (planeAt raw y x - planeAt g.raw y x) :=
  planeAt_activePlane_of_window h _

theorem planeAt_kvPlane_some {c : CombParams} {y x : Nat} (h : Spec.windowOf c y x) (raw : Plane) (g : FrameBuffer) :
    planeAt (kvPlane c raw (some g)) y x = confidence c (lumaDiff raw g.raw y x) :=
  planeAt_activePlane_of_window h _

/-- Without a previous frame both planes are 0 everywhere. -/
theorem planeAt_planes3D_none (c : CombParams) (raw : Plane) (y x : Nat) :
    planeAt (clp2Plane c raw none) y x = 0 ∧ planeAt (kvPlane c raw none) y x = 0 :=
  have hzero := (planeAt_activePlane_eq c (fun _ _ => 0) y x).trans (ite_self 0)
  ⟨hzero, hzero⟩

/-- The confidence with `K_RANGE_IRE` at its default. -/
theorem confidence_eq (c : CombParams) (d : Int) : confidence c d = 256 - min 256 (6400 * d / (10 * c.w100)) := rfl

theorem lumaDiff_eq_abs (raw prevRaw : Plane) (y x : Nat) :
    lumaDiff raw prevRaw y x = |luma4 raw y x - luma4 prevRaw y x| := Int.natCast_natAbs _

/-- Settles O23: with `use3` the reference is the previous frame, and without it there is none. -/
theorem decfThreeDimensional : Obligations.DecfThreeDimensional := fun s h =>
  decf_builds h ⟨fun g hprev huse => ⟨reference_isSome_iff.mpr huse, fun y x hw => by
    have href : s.reference = some g := reference_eq_some_iff.mpr ⟨hprev, huse⟩
    rw [builtFrame_clp2, builtFrame_kv, href]
    refine ⟨planeAt_clp2Plane_some hw _ g, ?_⟩
    rw [planeAt_kvPlane_some hw, confidence_eq, lumaDiff_eq_abs]
    rfl⟩,
    fun huse => by
      have href : s.reference = none := reference_eq_none_iff.mpr huse
      refine ⟨?_, fun y x => ?_⟩
      · rw [frame3D_completeDecf_beginDecf, href]
        rfl
      · rw [builtFrame_clp2, builtFrame_kv, href]
        exact planeAt_planes3D_none _ _ y x⟩

/-! ### The sign of the subcarrier (41 R134) -/

/-- The statements' sign with `posEven` for its condition on the phase ID. -/
theorem sign_eq (p1 p2 : BitVec 3) (y : Nat) :
    Spec.sign p1 p2 y = if posEven (if y % 2 = 0 then p1 else p2) = true ↔ y / 2 % 2 = 0 then 1 else -1 := by
  unfold Spec.sign
  simp only [posEven_iff]

theorem sigma_eq_sign (p1 p2 : BitVec 3) (y : Nat) : sigma p1 p2 y = Spec.sign p1 p2 y := by
  rw [sign_eq]
  unfold sigma linePhase
  refine if_congr ?_ rfl rfl
  by_cases hy : y / 2 % 2 = 0 <;> simp [hy]

/-- Two signs are opposite exactly when their conditions differ. -/
theorem sign_eq_neg_iff (P Q : Prop) [Decidable P] [Decidable Q] :
    (if P then (1 : Int) else -1) = -(if Q then 1 else -1) ↔ ¬(P ↔ Q) := by
  by_cases hP : P <;> by_cases hQ : Q <;> simp [hP, hQ]

/-- Two lines on, the line is of the same field and the other half of its count of four (41 R134). -/
theorem sigma_add_two (p1 p2 : BitVec 3) (y : Nat) : sigma p1 p2 (y + 2) = -sigma p1 p2 y := by
  have hfield : (y + 2) % 2 = y % 2 := by omega
  have hpair : (y + 2) / 2 % 2 = 0 ↔ ¬y / 2 % 2 = 0 := by omega
  rw [sigma_eq_sign, sigma_eq_sign, sign_eq, sign_eq, sign_eq_neg_iff, hfield, hpair]
  tauto

/-- On one line the signs of two frames differ as `posEven` of the field's two phase IDs does. -/
theorem sigma_eq_neg_sigma_iff (p1 p2 q1 q2 : BitVec 3) (y : Nat) :
    sigma p1 p2 y = -sigma q1 q2 y ↔
      posEven (if y % 2 = 0 then p1 else p2) ≠ posEven (if y % 2 = 0 then q1 else q2) := by
  have hcancel (P P' Q : Prop) : ((P ↔ Q) ↔ (P' ↔ Q)) ↔ (P ↔ P') := by tauto
  rw [sigma_eq_sign, sigma_eq_sign, sign_eq, sign_eq, sign_eq_neg_iff, hcancel, ← Bool.eq_iff_iff]

/-- Settles O24: two lines on, only the line's half of the count of four changes. -/
theorem subcarrierSignAlternates : Obligations.SubcarrierSignAlternates := by
  refine ⟨sigma_add_two, fun p1 p2 q1 q2 y => ?_, sigma_eq_sign⟩
  rw [sigma_eq_neg_sigma_iff, posEven_ne_iff]
  split <;> rfl

/-! ### The confidence and the blend as functions (41 R145, R147) -/

/-- The confidence falls as the difference rises. -/
theorem confidence_antitone {c : CombParams} (hw : 0 < c.w100) {d d' : Int} (h : d ≤ d') :
    confidence c d' ≤ confidence c d := by
  have hscaled : 6400 * d / (10 * c.w100) ≤ 6400 * d' / (10 * c.w100) :=
    fdiv_mono (by omega) (by omega)
  rw [confidence_eq, confidence_eq]
  omega

theorem confidence_nonneg (c : CombParams) (d : Int) : 0 ≤ confidence c d := by
  rw [confidence_eq]
  omega

theorem confidence_zero (c : CombParams) : confidence c 0 = 256 := by
  rw [confidence_eq, mul_zero, Int.zero_ediv]
  rfl

/-- From 10 IRE on, the default of `K_RANGE_IRE`, no confidence is left: `d` counts four times the luma, and 10 IRE of
luma are a tenth of `W100`. -/
theorem confidence_eq_zero {c : CombParams} (hw : 0 < c.w100) {d : Int} (h : 2 * c.w100 ≤ 5 * d) :
    confidence c d = 0 := by
  have hscaled : 256 ≤ 6400 * d / (10 * c.w100) := (Int.le_ediv_iff_mul_le (by omega)).mpr (by omega)
  rw [confidence_eq]
  omega

/-- A weighted sum with weights that sum to 256 lies between 256 times the bounds of its values. -/
theorem weightedSum_mem {k e3 e2 lo hi : Int} (h0 : 0 ≤ k) (h1 : k ≤ 256) (hlo3 : lo ≤ e3) (hlo2 : lo ≤ e2)
    (hhi3 : e3 ≤ hi) (hhi2 : e2 ≤ hi) :
    lo * 256 ≤ k * e3 + (256 - k) * e2 ∧ k * e3 + (256 - k) * e2 ≤ hi * 256 := by
  have hk : 0 ≤ 256 - k := by omega
  constructor
  · linarith [mul_le_mul_of_nonneg_left hlo3 h0, mul_le_mul_of_nonneg_left hlo2 hk]
  · linarith [mul_le_mul_of_nonneg_left hhi3 h0, mul_le_mul_of_nonneg_left hhi2 hk]

/-- The blend lies between any bounds of the two estimates. -/
theorem blend_mem {k e3 e2 lo hi : Int} (h0 : 0 ≤ k) (h1 : k ≤ 256) (hlo3 : lo ≤ e3) (hlo2 : lo ≤ e2)
    (hhi3 : e3 ≤ hi) (hhi2 : e2 ≤ hi) : lo ≤ blend k e3 e2 ∧ blend k e3 e2 ≤ hi := by
  obtain ⟨hlo, hhi⟩ := weightedSum_mem h0 h1 hlo3 hlo2 hhi3 hhi2
  exact ⟨(Int.le_ediv_iff_mul_le (by decide)).mpr hlo, Int.ediv_le_of_le_mul (by decide) hhi⟩

theorem blend_full (e3 e2 : Int) : blend 256 e3 e2 = e3 := by
  unfold blend fdiv
  omega

theorem blend_zero (e3 e2 : Int) : blend 0 e3 e2 = e2 := by
  unfold blend fdiv
  omega

/-- Settles O25: floor division by a positive divisor is monotone, and the blend is a weighted mean rounded down. -/
theorem confidenceAndBlend : Obligations.ConfidenceAndBlend := by
  refine ⟨fun c d d' hw hd hdd' => ?_, fun k e3 e2 h0 h1 => ?_⟩
  · exact ⟨confidence_nonneg c d', confidence_antitone hw hdd',
      (confidence_antitone hw hd).trans_eq (confidence_zero c), confidence_zero c, confidence_eq_zero hw⟩
  · obtain ⟨hlo, hhi⟩ :=
      blend_mem h0 h1 (min_le_right e2 e3) (min_le_left e2 e3) (le_max_right e2 e3) (le_max_left e2 e3)
    exact ⟨hlo, hhi, blend_full e3 e2, blend_zero e3 e2⟩

end Sys2Proof.Proofs
end

section
/-! PROOFS. Stage 3 of `DECF`: the demodulated line in closed form, and the stages that follow it
(41_comb_separation.md R147; 42_iq_demod_filters.md R160, R165 to R176). -/

namespace Sys2Proof.Proofs

open Sys2Proof.Machine

/-! ### One column (42 R160) -/

/-- What a column leaves alone: an even column holds I and an odd one holds Q. -/
theorem demodStep_held (sg e : Int) (x : Nat) (held : Int × Int) :
    (x % 2 = 0 → (demodStep sg x e held).1 = held.1) ∧ (x % 2 = 1 → (demodStep sg x e held).2 = held.2) := by
  refine ⟨fun heven => ?_, fun hodd => ?_⟩
  · have hx : x % 4 = 0 ∨ x % 4 = 2 := by omega
    rcases hx with hx | hx <;> simp only [demodStep, hx]
  · have hx : x % 4 = 1 ∨ x % 4 = 3 := by omega
    rcases hx with hx | hx <;> simp only [demodStep, hx]

/-- What a column updates, by its number mod 4. -/
theorem demodStep_updated (sg e : Int) (x : Nat) (held : Int × Int) :
    (x % 4 = 0 → (demodStep sg x e held).2 = sg * e) ∧ (x % 4 = 1 → (demodStep sg x e held).1 = -sg * e) ∧
      (x % 4 = 2 → (demodStep sg x e held).2 = -sg * e) ∧ (x % 4 = 3 → (demodStep sg x e held).1 = sg * e) := by
  refine ⟨fun h => ?_, fun h => ?_, fun h => ?_, fun h => ?_⟩ <;> simp only [demodStep, h]

/-! ### A line -/

/-- The first column of a line starts from the values held before it. -/
theorem demodFrom_getD_first (sg : Int) (x : Nat) (held : Int × Int) {l : List Int} (h : 0 < l.length) :
    (demodFrom sg x held l).getD 0 (0, 0) = demodStep sg x (l.getD 0 0) held := by
  cases l with
  | nil => simp at h
  | cons e l => exact demodFrom_getD_zero sg x held e l

/-- The estimates of a line, from its first active column on. -/
def lineEstimates (c : CombParams) (csel : Nat → Int) : List Int :=
  (List.range (c.ave - c.avs)).map fun k => csel (c.avs + k)

theorem demodLine_eq (c : CombParams) (sg : Int) (csel : Nat → Int) :
    demodLine c sg csel = demodFrom sg c.avs (0, 0) (lineEstimates c csel) := rfl

theorem length_lineEstimates (c : CombParams) (csel : Nat → Int) : (lineEstimates c csel).length = c.ave - c.avs := by
  simp [lineEstimates]

theorem lineEstimates_getD {c : CombParams} {k : Nat} (h : k < c.ave - c.avs) (csel : Nat → Int) :
    (lineEstimates c csel).getD k 0 = csel (c.avs + k) :=
  (getD_map_range _ _ _ _).trans (if_pos h)

/-- The first active column starts from zero. -/
theorem demodLine_getD_zero {c : CombParams} (h : c.avs < c.ave) (sg : Int) (csel : Nat → Int) :
    (demodLine c sg csel).getD 0 (0, 0) = demodStep sg c.avs (csel c.avs) (0, 0) := by
  have hpos : 0 < c.ave - c.avs := Nat.sub_pos_of_lt h
  rw [demodLine_eq, demodFrom_getD_first _ _ _ (by rwa [length_lineEstimates]), lineEstimates_getD hpos]
  rfl

/-- Every other active column starts from the pair of the column before it. -/
theorem demodLine_getD_succ {c : CombParams} {k : Nat} (h : k + 1 < c.ave - c.avs) (sg : Int) (csel : Nat → Int) :
    (demodLine c sg csel).getD (k + 1) (0, 0) =
      demodStep sg (c.avs + (k + 1)) (csel (c.avs + (k + 1))) ((demodLine c sg csel).getD k (0, 0)) := by
  rw [demodLine_eq, demodFrom_getD_succ _ _ _ _ _ (by rwa [length_lineEstimates]), lineEstimates_getD h]
  rfl

/-! ### The frame -/

/-- The pair that a column starts from: zero at the first active column, else the pair of the column before. -/
def heldBefore (c : CombParams) (lines : List (List (Int × Int))) (y x : Nat) : Int × Int :=
  if x = c.avs then (0, 0) else iqAt c lines y (x - 1)

theorem iqAt_demodLines {c : CombParams} {y : Nat} (h : y < c.frameHeight) (p1 p2 : BitVec 3) (csel : Nat → Nat → Int)
    (x : Nat) :
    iqAt c (demodLines c p1 p2 csel) y x = (demodLine c (sigma p1 p2 y) (csel y)).getD (x - c.avs) (0, 0) := by
  unfold iqAt demodLines
  rw [getD_map_range, if_pos h]

/-- The pair of an active pixel is one column's step from the pair held before it (42 R160). -/
theorem iqAt_eq_demodStep {c : CombParams} {y x : Nat} (h : Spec.windowOf c y x) (p1 p2 : BitVec 3)
    (csel : Nat → Nat → Int) :
    iqAt c (demodLines c p1 p2 csel) y x =
      demodStep (sigma p1 p2 y) x (csel y x) (heldBefore c (demodLines c p1 p2 csel) y x) := by
  obtain ⟨hy, hlo, hhi, -⟩ := h
  obtain ⟨k, rfl⟩ := Nat.exists_eq_add_of_le hlo
  unfold heldBefore
  rw [iqAt_demodLines hy, iqAt_demodLines hy, Nat.add_sub_cancel_left]
  cases k with
  | zero => rw [if_pos (Nat.add_zero c.avs)]; exact demodLine_getD_zero hhi _ _
  | succ k =>
    have hcolumn : c.avs + (k + 1) - 1 - c.avs = k := by omega
    rw [if_neg (by omega), hcolumn]
    exact demodLine_getD_succ (by omega) _ _

/-- The demodulated planes hold the two members of that pair. -/
theorem planeAt_demodI {c : CombParams} {y x : Nat} (h : Spec.windowOf c y x) (lines : List (List (Int × Int))) :
    planeAt (demodI c lines) y x = (iqAt c lines y x).1 := planeAt_activePlane_of_window h _

theorem planeAt_demodQ {c : CombParams} {y x : Nat} (h : Spec.windowOf c y x) (lines : List (List (Int × Int))) :
    planeAt (demodQ c lines) y x = (iqAt c lines y x).2 := planeAt_activePlane_of_window h _

/-- The luma is the composite sample in Q.4 (42 R160, R161). -/
theorem planeAt_demodY {c : CombParams} {y x : Nat} (h : Spec.windowOf c y x) (raw : Plane) :
    planeAt (demodY c raw) y x = 16 * planeAt raw y x := planeAt_activePlane_of_window h _

/-- An active column carries plus or minus the estimate on the axis its number mod 4 selects. -/
theorem planeAt_demod_updated {c : CombParams} {y x : Nat} (h : Spec.windowOf c y x) (p1 p2 : BitVec 3)
    (csel : Nat → Nat → Int) :
    let lines := demodLines c p1 p2 csel
    (x % 4 = 0 → planeAt (demodQ c lines) y x = sigma p1 p2 y * csel y x) ∧
      (x % 4 = 1 → planeAt (demodI c lines) y x = -sigma p1 p2 y * csel y x) ∧
      (x % 4 = 2 → planeAt (demodQ c lines) y x = -sigma p1 p2 y * csel y x) ∧
      (x % 4 = 3 → planeAt (demodI c lines) y x = sigma p1 p2 y * csel y x) := by
  intro lines
  rw [planeAt_demodI h, planeAt_demodQ h, iqAt_eq_demodStep h]
  exact demodStep_updated _ _ _ _

/-- The first active column holds zero on the axis it does not select. -/
theorem planeAt_demod_first {c : CombParams} {y : Nat} (h : Spec.windowOf c y c.avs) (p1 p2 : BitVec 3)
    (csel : Nat → Nat → Int) :
    let lines := demodLines c p1 p2 csel
    (c.avs % 2 = 0 → planeAt (demodI c lines) y c.avs = 0) ∧
      (c.avs % 2 = 1 → planeAt (demodQ c lines) y c.avs = 0) := by
  intro lines
  rw [planeAt_demodI h, planeAt_demodQ h, iqAt_eq_demodStep h, heldBefore, if_pos rfl]
  exact demodStep_held _ _ _ _

/-- Every other active column holds the axis it does not select from the column before. -/
theorem planeAt_demod_held {c : CombParams} {y x : Nat} (h : Spec.windowOf c y x) (hx : c.avs < x) (p1 p2 : BitVec 3)
    (csel : Nat → Nat → Int) :
    let lines := demodLines c p1 p2 csel
    (x % 2 = 0 → planeAt (demodI c lines) y x = planeAt (demodI c lines) y (x - 1)) ∧
      (x % 2 = 1 → planeAt (demodQ c lines) y x = planeAt (demodQ c lines) y (x - 1)) := by
  intro lines
  have hbefore : Spec.windowOf c y (x - 1) := by
    obtain ⟨hy, -, hhi, hwidth⟩ := h
    exact ⟨hy, by omega, by omega, by omega⟩
  have hstep := iqAt_eq_demodStep h p1 p2 csel
  rw [heldBefore, if_neg hx.ne'] at hstep
  rw [planeAt_demodI h, planeAt_demodQ h, planeAt_demodI hbefore, planeAt_demodQ hbefore, hstep]
  exact demodStep_held _ _ _ _

/-! ### The frame buffer of a `DECF` -/

/-- The lines that stage 3 of the `DECF` demodulates, from the estimate that stage 2 selects (41 R147). -/
def stageThreeLines (s : State) : List (List (Int × Int)) :=
  demodLines s.params s.f1Phase s.f2Phase (Spec.csel s.reference.isSome s.builtFrame)

/-- The stages 4 to 6 on the demodulated planes (41 R130). -/
theorem builtFrame_yiq (s : State) :
    s.builtFrame.yiqI = doCNR s.params (lowpassI s.params (demodI s.params (stageThreeLines s))) ∧
      s.builtFrame.yiqQ = doCNR s.params (lowpassQ s.params (demodQ s.params (stageThreeLines s))) ∧
      s.builtFrame.yiqY =
        adjustY s.params s.f1Phase s.f2Phase (doYNR s.params (demodY s.params s.builtFrame.raw)) s.builtFrame.yiqI
          s.builtFrame.yiqQ := ⟨rfl, rfl, rfl⟩

/-- Settles O26: the planes after stage 3 are those of the demodulated lines, column by column. -/
theorem decfDemodulates : Obligations.DecfDemodulates := by
  intro s h
  obtain ⟨hi, hq, hy⟩ := builtFrame_yiq s
  refine ⟨s.beginDecf.completeDecf, s.builtFrame, demodY s.params s.builtFrame.raw, demodI s.params (stageThreeLines s),
    demodQ s.params (stageThreeLines s), exec_decf_of_ready h, prev_completeDecf_beginDecf s, hi, hq, hy,
    fun y x hwindow => ?_⟩
  have hw : Spec.windowOf s.params y x := hwindow
  dsimp only
  rw [frame3D_completeDecf_beginDecf, ← sigma_eq_sign]
  obtain ⟨h0, h1, h2, h3⟩ :=
    planeAt_demod_updated hw s.f1Phase s.f2Phase (Spec.csel s.reference.isSome s.builtFrame)
  refine ⟨planeAt_demodY hw _, h0, h1, h2, h3, ?_, ?_, fun hx hlt => ?_, fun hx hlt => ?_⟩
  · rintro hx rfl
    exact (planeAt_demod_first hw _ _ _).1 hx
  · rintro hx rfl
    exact (planeAt_demod_first hw _ _ _).2 hx
  · exact (planeAt_demod_held hw hlt _ _ _).1 hx
  · exact (planeAt_demod_held hw hlt _ _ _).2 hx

end Sys2Proof.Proofs
end

section
/-! PROOFS. What `DECF` does not read: the two 3D flags when there is no previous frame, and the elements of the field
buffers beyond the fields (41_comb_separation.md R131, R132, R140 to R142). -/

namespace Sys2Proof.Proofs

open Sys2Proof.Machine

/-! ### Changes that commute with `DECF` -/

/-- A change of the state that `DECF`'s checks do not see, that is made before or after the start, the fatal entry and
the completion alike, is made before or after the command alike. -/
theorem exec_decf_map {g : State → State} {s t : State} (hfault : (g s).status.fault = s.status.fault)
    (hbegin : (g s).beginDecf = g s.beginDecf) (hchecks : decfViolation (g s.beginDecf) = decfViolation s.beginDecf)
    (hraise : ∀ e info, (g s.beginDecf).raise e info = g (s.beginDecf.raise e info))
    (hcomplete : (g s.beginDecf).completeDecf = g s.beginDecf.completeDecf) (h : exec .decf s = .next t) :
    exec .decf (g s) = .next (g t) := by
  change execDecf s = _ at h
  change execDecf (g s) = _
  cases hf : s.status.fault with
  | true =>
    rw [execDecf_of_fault hf] at h
    cases h
    exact execDecf_of_fault (hfault.trans hf)
  | false =>
    rw [execDecf_eq hf] at h
    rw [execDecf_eq (hfault.trans hf), hbegin, hchecks]
    split at h <;> cases h
    · exact congrArg _ (hraise _ _)
    · exact congrArg _ hcomplete

/-! ### The 3D flags without a previous frame (41 R142) -/

/-- The state with another active Comb Configuration. -/
def withActCc (s : State) (cc : CombConfig) : State := { s with actCc := cc }

/-- With no previous frame there is no reference, whatever the configuration (41 R140). -/
theorem reference_of_prev_none {s : State} (h : s.prev = none) : s.reference = none := by
  unfold State.reference
  rw [h]
  rfl

/-- The parameters with other values of the two flags of the 3D strategy. -/
def withFlags3D (c : CombParams) (use3D showFlow : Bool) : CombParams := { c with use3D := use3D, showFlow := showFlow }

/-- The flags register holds the three flags of the other stages in its low three bits (10 R33). -/
theorem params_withActCc_flags (s : State) {fl : BitVec 5}
    (h : fl.extractLsb' 0 3 = s.actCc.flags.extractLsb' 0 3) :
    (withActCc s { s.actCc with flags := fl }).params = withFlags3D s.params (fl.getLsbD 3) (fl.getLsbD 4) := by
  have hbit (k : Nat) (hk : k < 3) : fl.getLsbD k = s.actCc.flags.getLsbD k := by
    have hk' := congrArg (fun v => v.getLsbD k) h
    simpa [hk] using hk'
  have h0 := hbit 0 (by decide)
  have h1 := hbit 1 (by decide)
  have h2 := hbit 2 (by decide)
  simp only [State.params, withActCc, combParams, withFlags3D, h0, h1, h2]

/-- Once the reference is chosen, the stages 1 to 6 read neither flag. -/
theorem buildFrame_withFlags3D (c : CombParams) (use3D showFlow : Bool) :
    buildFrame (withFlags3D c use3D showFlow) = buildFrame c := rfl

/-- Without the 3D strategy the overlay paints no pixel (43 R196). -/
theorem framePixel_false (c : CombParams) (f : FrameBuffer) (y x : Nat) :
    framePixel c false f y x = convertedPixel c f y x := by
  simp [framePixel]

theorem frameMemory_withFlags3D (c : CombParams) (use3D showFlow : Bool) (f : FrameBuffer) :
    frameMemory (withFlags3D c use3D showFlow) false f = frameMemory c false f := by
  unfold frameMemory frameElem
  simp only [framePixel_false]
  rfl

/-- Without a previous frame the completion is the same at any value of the two flags. -/
theorem completeDecf_withActCc_flags {s : State} {fl : BitVec 5} (hprev : s.prev = none)
    (h : fl.extractLsb' 0 3 = s.actCc.flags.extractLsb' 0 3) :
    (withActCc s { s.actCc with flags := fl }).completeDecf =
      withActCc s.completeDecf { s.actCc with flags := fl } := by
  have hparams := params_withActCc_flags s h
  have href : s.reference = none := reference_of_prev_none hprev
  have href' : (withActCc s { s.actCc with flags := fl }).reference = none := reference_of_prev_none hprev
  have hframe : (withActCc s { s.actCc with flags := fl }).builtFrame = s.builtFrame := by
    unfold State.builtFrame
    rw [hparams, href, href', buildFrame_withFlags3D]
    rfl
  unfold State.completeDecf
  rw [hframe, hparams, href, href', Option.isSome_none, frameMemory_withFlags3D]
  rfl

/-- Settles O35: the change of the two flags commutes with `DECF`. -/
theorem firstFrameIsTwoDimensional : Obligations.FirstFrameIsTwoDimensional := fun s _ fl hprev hfl h =>
  exec_decf_map (g := fun u => withActCc u { s.actCc with flags := fl }) rfl rfl rfl (fun _ _ => rfl)
    (completeDecf_withActCc_flags (s := s.beginDecf) hprev hfl) h

/-! ### The elements of the field buffers that `DECF` reads (41 R131, R132) -/

theorem planeTabulate_congr {h w : Nat} {f g : Nat → Nat → Int} (hfg : ∀ y x, y < h → x < w → f y x = g y x) :
    planeTabulate h w f = planeTabulate h w g :=
  List.map_congr_left fun y hy => List.map_congr_left fun x hx =>
    hfg y x (List.mem_range.mp hy) (List.mem_range.mp hx)

/-- An element of line `l` stands below the end of a field of `n` lines. -/
theorem lineElement_lt {w n l x : Nat} (hl : l < n) (hx : x < w) : l * w + x < w * n :=
  calc l * w + x < (l + 1) * w := by rw [Nat.succ_mul]; exact Nat.add_lt_add_left hx _
    _ ≤ n * w := Nat.mul_le_mul_right w hl
    _ = w * n := Nat.mul_comm n w

/-- Assembly reads the first field below its end, and the second below the start of its last line. -/
theorem rawPlane_congr {c : CombParams} {a a' b b' : Nat → Int} (ha : ∀ k, k < c.width * c.height → a' k = a k)
    (hb : ∀ k, k < c.width * (c.height - 1) → b' k = b k) : rawPlane c a' b' = rawPlane c a b :=
  planeTabulate_congr fun y x hy hx => by
    unfold CombParams.frameHeight at hy
    split
    · exact ha _ (lineElement_lt (by omega) hx)
    · exact hb _ (lineElement_lt (by omega) hx)

/-- The stages read the fields through the raw plane alone. -/
theorem buildFrame_congr {c : CombParams} {a a' b b' : Nat → Int} (h : rawPlane c a' b' = rawPlane c a b)
    (geom : Geometry) (p1 p2 : BitVec 3) (ref : Option FrameBuffer) :
    buildFrame c geom p1 p2 a' b' ref = buildFrame c geom p1 p2 a b ref := by
  unfold buildFrame
  rw [h]

/-- The state with other field buffers. -/
def withFields (s : State) (m1 m2 : Memory) : State := { s with f1 := m1, f2 := m2 }

/-- The frame buffer built depends on the fields alone. -/
theorem builtFrame_withFields {s : State} {m1 m2 : Memory}
    (h1 : ∀ k, k < s.actVp.fieldWidth.toNat * s.actVp.fieldHeight.toNat →
      (withFields s m1 m2).fieldElem false k = s.fieldElem false k)
    (h2 : ∀ k, k < s.actVp.fieldWidth.toNat * (s.actVp.fieldHeight.toNat - 1) →
      (withFields s m1 m2).fieldElem true k = s.fieldElem true k) :
    (withFields s m1 m2).builtFrame = s.builtFrame :=
  have hraw := rawPlane_congr (c := s.params) (fun k hk => congrArg (fun v : Sample => (v.toNat : Int)) (h1 k hk))
    (fun k hk => congrArg (fun v : Sample => (v.toNat : Int)) (h2 k hk))
  buildFrame_congr hraw _ _ _ _

theorem completeDecf_withFields {s : State} {m1 m2 : Memory} (h : (withFields s m1 m2).builtFrame = s.builtFrame) :
    (withFields s m1 m2).completeDecf = withFields s.completeDecf m1 m2 := by
  unfold State.completeDecf
  rw [h]
  rfl

/-- Settles O37: the change of the field buffers beyond the fields commutes with `DECF`. -/
theorem decfReadsOnlyTheFields : Obligations.DecfReadsOnlyTheFields := fun s _ m1 m2 h h1 h2 =>
  exec_decf_map (g := fun u => withFields u m1 m2) rfl rfl rfl (fun _ _ => rfl)
    (completeDecf_withFields (s := s.beginDecf) (builtFrame_withFields h1 h2)) h

end Sys2Proof.Proofs
end

section
/-! PROOFS. The filters of a line: edge replication, the tap sums and their bounds, the chroma low-pass and the coring
of the two noise reducers (42_iq_demod_filters.md R164 to R166, R170 to R173). -/

namespace Sys2Proof.Proofs

open Sys2Proof.Machine

/-! ### Edge replication (42 R164) -/

theorem clampInt_eq_max_min {lo hi : Int} (v : Int) (h : lo ≤ hi) : clampInt v lo hi = max lo (min hi v) := by
  unfold clampInt
  split
  · omega
  · split <;> omega

/-- An active line has a first and a last column. -/
theorem avs_lt_ave_of_window {c : CombParams} {y x : Nat} (h : Spec.windowOf c y x) : c.avs < c.ave := by
  obtain ⟨-, hlo, hhi, -⟩ := h
  omega

theorem edgeAt_eq_at' {c : CombParams} (h : c.avs < c.ave) (v : Plane) (y : Nat) (x : Int) :
    edgeAt c v y x = Spec.at' c v y x := by
  unfold edgeAt Spec.at'
  rw [clampInt_eq_max_min x (by omega)]

/-- Every value of the active part of a line lies between two bounds. -/
def lineWithin (c : CombParams) (v : Plane) (y : Nat) (lo hi : Int) : Prop :=
  ∀ x, c.avs ≤ x → x < c.ave → lo ≤ planeAt v y x ∧ planeAt v y x ≤ hi

/-- What a tap reads is a value of the active part of the line, wherever the tap falls. -/
theorem edgeAt_mem {c : CombParams} {v : Plane} {y : Nat} {lo hi : Int} (h : c.avs < c.ave)
    (hv : lineWithin c v y lo hi) (x : Int) : lo ≤ edgeAt c v y x ∧ edgeAt c v y x ≤ hi := by
  obtain ⟨hfirst, hlast⟩ := clampInt_bounds x (lo := c.avs) (hi := c.ave - 1) (by omega)
  exact hv _ (by omega) (by omega)

/-! ### Tap sums (42 R166) -/

/-- A sum with non-negative weights lies between the bounds of its values times the sum of the weights. -/
theorem sum_weighted_mem {ι : Type} {lo hi : Int} {g : ι → Int} (hg : ∀ k, lo ≤ g k ∧ g k ≤ hi) (l : List (Int × ι))
    (hl : ∀ t ∈ l, 0 ≤ t.1) :
    lo * (l.map Prod.fst).sum ≤ (l.map fun t => t.1 * g t.2).sum ∧
      (l.map fun t => t.1 * g t.2).sum ≤ hi * (l.map Prod.fst).sum := by
  induction l with
  | nil => simp
  | cons t l ih =>
    obtain ⟨hlo, hhi⟩ := ih fun u hu => hl u (List.mem_cons_of_mem t hu)
    have ht : 0 ≤ t.1 := hl t List.mem_cons_self
    obtain ⟨hglo, hghi⟩ := hg t.2
    simp only [List.map_cons, List.sum_cons, mul_add]
    exact ⟨add_le_add (by linarith [mul_le_mul_of_nonneg_left hglo ht]) hlo,
      add_le_add (by linarith [mul_le_mul_of_nonneg_left hghi ht]) hhi⟩

theorem tapSum_mem {c : CombParams} {v : Plane} {y : Nat} {lo hi : Int} {taps : List Int} (h : c.avs < c.ave)
    (hv : lineWithin c v y lo hi) (htaps : ∀ t ∈ taps, 0 ≤ t) (x : Nat) :
    lo * taps.sum ≤ tapSum c taps v y x ∧ tapSum c taps v y x ≤ hi * taps.sum := by
  have hsum := sum_weighted_mem (fun k : Nat => edgeAt_mem h hv (x - ((taps.length - 1) / 2 : Nat) + k)) taps.zipIdx
    fun t ht => htaps t.1 (List.fst_mem_of_mem_zipIdx ht)
  rwa [List.zipIdx_map_fst] at hsum

/-- The output of a filter with non-negative taps lies between the bounds of the line (42 R166). -/
theorem fir_mem {c : CombParams} {v : Plane} {y : Nat} {lo hi : Int} {taps : List Int} (h : c.avs < c.ave)
    (hv : lineWithin c v y lo hi) (htaps : ∀ t ∈ taps, 0 ≤ t) (hsum : 0 < taps.sum) (x : Nat) :
    lo ≤ fir c taps v y x ∧ fir c taps v y x ≤ hi := by
  obtain ⟨hlo, hhi⟩ := tapSum_mem h hv htaps x
  exact ⟨(rdiv_mul lo hsum).ge.trans (rdiv_mono hsum hlo), (rdiv_mono hsum hhi).trans_eq (rdiv_mul hi hsum)⟩

/-! ### The filters as the statements write them out (42 R166, R170)

The tap list is unrolled into its sum, and the columns of the taps are then normalised on both sides. -/

theorem fir_firI_eq {c : CombParams} (h : c.avs < c.ave) (v : Plane) (y x : Nat) :
    fir c Config.firI v y x = Spec.firI c v y x := by
  simp [fir, rdiv, fdiv, tapSum, Config.firI, Spec.firI, edgeAt_eq_at' h]
  ring_nf

theorem fir_firQ_eq {c : CombParams} (h : c.avs < c.ave) (v : Plane) (y x : Nat) :
    fir c Config.firQ v y x = Spec.firQ c v y x := by
  simp [fir, rdiv, fdiv, tapSum, Config.firQ, Spec.firQ, edgeAt_eq_at' h]
  ring_nf

theorem highPass_eq {c : CombParams} (h : c.avs < c.ave) (v : Plane) (y x : Nat) :
    highPass c v y x = (2 * (2 * Spec.at' c v y x - Spec.at' c v y (x - 1) - Spec.at' c v y (x + 1)) + 4) / 8 := by
  simp [highPass, rdiv, fdiv, tapSum, Config.nrHp, Config.nrHpDiv, edgeAt_eq_at' h]
  ring_nf

theorem coreFilter_eq_cored {c : CombParams} {t : Int} (h : c.avs < c.ave) (ht : 0 ≤ t) (v : Plane) (y x : Nat) :
    coreFilter c v t y x = Spec.cored c v t y x := by
  rw [coreFilter, Spec.cored, highPass_eq h, clampInt_eq_max_min _ (by omega)]

/-! ### The chroma low-pass (42 R165) -/

/-- The low-pass of a channel by its taps: the shape that the two channels share. -/
def lowpass (c : CombParams) (taps : List Int) (v : Plane) : Plane :=
  if c.colorlpf then activePlane c (fir c taps v) else v

/-- The taps of the Q channel. -/
def tapsQ (c : CombParams) : List Int := if c.colorlpfHq then Config.firI else Config.firQ

theorem lowpassI_eq (c : CombParams) (v : Plane) : lowpassI c v = lowpass c Config.firI v := rfl

theorem lowpassQ_eq (c : CombParams) (v : Plane) : lowpassQ c v = lowpass c (tapsQ c) v := rfl

/-- A tap list that smooths: no tap is negative and they do not all vanish. -/
def smoothing (taps : List Int) : Prop := (∀ t ∈ taps, 0 ≤ t) ∧ 0 < taps.sum

theorem smoothing_firI : smoothing Config.firI := ⟨by decide, by decide⟩

theorem smoothing_tapsQ (c : CombParams) : smoothing (tapsQ c) := by
  unfold tapsQ
  split
  · exact smoothing_firI
  · exact ⟨by decide, by decide⟩

theorem lowpass_of_not_colorlpf {c : CombParams} (h : c.colorlpf = false) (taps : List Int) (v : Plane) :
    lowpass c taps v = v := by
  simp [lowpass, h]

theorem lowpass_of_colorlpf {c : CombParams} (h : c.colorlpf = true) (taps : List Int) (v : Plane) :
    lowpass c taps v = activePlane c (fir c taps v) := if_pos h

theorem planeAt_lowpass_of_window {c : CombParams} {y x : Nat} (h : c.colorlpf = true) (hw : Spec.windowOf c y x)
    (taps : List Int) (v : Plane) : planeAt (lowpass c taps v) y x = fir c taps v y x := by
  rw [lowpass_of_colorlpf h, planeAt_activePlane_of_window hw]

/-- The low-pass, on or off, keeps the bounds of a line. -/
theorem lowpass_mem {c : CombParams} {v : Plane} {y x : Nat} {lo hi : Int} {taps : List Int} (htaps : smoothing taps)
    (hw : Spec.windowOf c y x) (hv : lineWithin c v y lo hi) :
    lo ≤ planeAt (lowpass c taps v) y x ∧ planeAt (lowpass c taps v) y x ≤ hi := by
  cases hc : c.colorlpf with
  | false =>
    obtain ⟨-, hfirst, hlast, -⟩ := hw
    rw [lowpass_of_not_colorlpf hc]
    exact hv x hfirst hlast
  | true =>
    rw [planeAt_lowpass_of_window hc hw]
    exact fir_mem (avs_lt_ave_of_window hw) hv htaps.1 htaps.2 x

/-- Settles O27: the low-pass is a filter with non-negative taps, read with edge replication. -/
theorem chromaLowPass : Obligations.ChromaLowPass := by
  intro c v
  rw [lowpassI_eq, lowpassQ_eq]
  refine ⟨fun hoff => ⟨lowpass_of_not_colorlpf hoff _ v, lowpass_of_not_colorlpf hoff _ v⟩,
    fun hon => ⟨?outside, ?inside⟩⟩
  case outside =>
    intro y x hw
    rw [lowpass_of_colorlpf hon, lowpass_of_colorlpf hon]
    exact ⟨planeAt_activePlane_of_not_window hw _, planeAt_activePlane_of_not_window hw _⟩
  case inside =>
    intro y x hw
    have hline := avs_lt_ave_of_window hw
    have hread (taps : List Int) := planeAt_lowpass_of_window hon hw taps v
    refine ⟨(hread _).trans (fir_firI_eq hline v y x), fun hq => ?_, fun hq => ?_, fun lo hi hv => ?_⟩
    · rw [hread, tapsQ, if_pos hq, fir_firI_eq hline]
    · rw [hread, tapsQ, if_neg (by simp [hq]), fir_firQ_eq hline]
    · exact and_assoc.mp ⟨lowpass_mem smoothing_firI hw hv, lowpass_mem (smoothing_tapsQ c) hw hv⟩

/-! ### The noise reducers (42 R170 to R173) -/

/-- The noise reducer of a channel by its level: the shape that `doCNR` and `doYNR` share. -/
def noiseReducer (c : CombParams) (level : Int) (v : Plane) : Plane :=
  if level = 0 then v else activePlane c (coreFilter c v (threshold c level))

theorem doCNR_eq (c : CombParams) (v : Plane) : doCNR c v = noiseReducer c c.cnr v := rfl

theorem doYNR_eq (c : CombParams) (v : Plane) : doYNR c v = noiseReducer c c.ynr v := rfl

theorem noiseReducer_of_level_eq_zero {c : CombParams} {level : Int} (h : level = 0) (v : Plane) :
    noiseReducer c level v = v := if_pos h

theorem planeAt_noiseReducer_of_window {c : CombParams} {level : Int} {y x : Nat} (hlevel : level ≠ 0)
    (hw : Spec.windowOf c y x) (v : Plane) :
    planeAt (noiseReducer c level v) y x = coreFilter c v (threshold c level) y x := by
  rw [noiseReducer, if_neg hlevel, planeAt_activePlane_of_window hw]

theorem threshold_nonneg {c : CombParams} {level : Int} (hlevel : 0 ≤ level) (hw100 : 0 ≤ c.w100) :
    0 ≤ threshold c level := by
  rw [threshold_eq]
  exact Int.ediv_nonneg (Int.mul_nonneg hlevel hw100) (by decide)

/-- At a positive level the reducer cores its channel by the level's threshold. -/
theorem planeAt_noiseReducer_eq_cored {c : CombParams} {level : Int} {y x : Nat} (hlevel : 0 < level)
    (hw100 : 0 < c.w100) (hw : Spec.windowOf c y x) (v : Plane) :
    planeAt (noiseReducer c level v) y x = Spec.cored c v (level * c.w100 / 100) y x := by
  rw [planeAt_noiseReducer_of_window hlevel.ne' hw,
    coreFilter_eq_cored (avs_lt_ave_of_window hw) (threshold_nonneg hlevel.le hw100.le), threshold_eq]

/-- Settles O28: both reducers are one reducer at two levels. -/
theorem noiseReducersCore : Obligations.NoiseReducersCore := by
  intro c v
  rw [doCNR_eq, doYNR_eq]
  exact ⟨fun h => noiseReducer_of_level_eq_zero h v, fun h => noiseReducer_of_level_eq_zero h v,
    fun hlevel hw100 y x hw => planeAt_noiseReducer_eq_cored hlevel hw100 hw v,
    fun hlevel hw100 y x hw => planeAt_noiseReducer_eq_cored hlevel hw100 hw v⟩

end Sys2Proof.Proofs
end

section
/-! PROOFS. Stage 6 of `DECF`, and the luma of a frame that no filter touches (42_iq_demod_filters.md R176, R177). -/

namespace Sys2Proof.Proofs

open Sys2Proof.Machine

/-! ### The re-modulated chroma (42 R176) -/

/-- The table of R176, by the number of the column mod 4. -/
theorem remodulate_by_column (sg i q : Int) (x : Nat) :
    (x % 4 = 0 → remodulate sg x i q = sg * q) ∧ (x % 4 = 1 → remodulate sg x i q = -sg * i) ∧
      (x % 4 = 2 → remodulate sg x i q = -sg * q) ∧ (x % 4 = 3 → remodulate sg x i q = sg * i) := by
  refine ⟨fun h => ?_, fun h => ?_, fun h => ?_, fun h => ?_⟩ <;> simp only [remodulate, h]

theorem planeAt_adjustY {c : CombParams} {y x : Nat} (hw : Spec.windowOf c y x) (p1 p2 : BitVec 3) (yv i q : Plane) :
    planeAt (adjustY c p1 p2 yv i q) y x =
      planeAt yv y x - remodulate (sigma p1 p2 y) x (planeAt i y x) (planeAt q y x) :=
  planeAt_activePlane_of_window hw _

/-- Settles O30: the luma of a column is the composite less the table's entry for the column. -/
theorem lumaAdjustment : Obligations.LumaAdjustment := by
  intro c p1 p2 yv i q y x hw
  dsimp only
  rw [planeAt_adjustY hw, sigma_eq_sign]
  obtain ⟨h0, h1, h2, h3⟩ := remodulate_by_column (Spec.sign p1 p2 y) (planeAt i y x) (planeAt q y x) x
  refine ⟨fun h => ?_, fun h => ?_, fun h => ?_, fun h => ?_⟩
  · rw [h0 h]
  · rw [h1 h, neg_mul, sub_neg_eq_add]
  · rw [h2 h, neg_mul, sub_neg_eq_add]
  · rw [h3 h]

/-! ### The luma without filters (42 R177) -/

theorem sigma_eq_one_or_neg_one (p1 p2 : BitVec 3) (y : Nat) : sigma p1 p2 y = 1 ∨ sigma p1 p2 y = -1 := by
  unfold sigma
  split
  · exact .inl rfl
  · exact .inr rfl

/-- Re-modulation undoes demodulation: the axis that a column updates is the axis that it reads, and the sign is its own
inverse. -/
theorem remodulate_demodStep {sg : Int} (hsg : sg = 1 ∨ sg = -1) (e : Int) (x : Nat) (held : Int × Int) :
    remodulate sg x (demodStep sg x e held).1 (demodStep sg x e held).2 = e := by
  have hcolumn : x % 4 = 0 ∨ x % 4 = 1 ∨ x % 4 = 2 ∨ x % 4 = 3 := by omega
  rcases hsg with rfl | rfl <;> rcases hcolumn with hx | hx | hx | hx <;> simp [remodulate, demodStep, hx]

/-- The demodulated planes, put back on the subcarrier, are the estimate they came from. -/
theorem remodulate_demodLines {c : CombParams} {y x : Nat} (hw : Spec.windowOf c y x) (p1 p2 : BitVec 3)
    (csel : Nat → Nat → Int) :
    remodulate (sigma p1 p2 y) x (planeAt (demodI c (demodLines c p1 p2 csel)) y x)
      (planeAt (demodQ c (demodLines c p1 p2 csel)) y x) = csel y x := by
  rw [planeAt_demodI hw, planeAt_demodQ hw, iqAt_eq_demodStep hw]
  exact remodulate_demodStep (sigma_eq_one_or_neg_one p1 p2 y) _ x _

/-- With no low-pass and both levels 0 the stages 4 and 5 leave the demodulated planes as they are. -/
theorem builtFrame_yiq_of_unfiltered {s : State} (hlpf : s.params.colorlpf = false) (hcnr : s.params.cnr = 0)
    (hynr : s.params.ynr = 0) :
    s.builtFrame.yiqY =
      adjustY s.params s.f1Phase s.f2Phase (demodY s.params s.builtFrame.raw) (demodI s.params (stageThreeLines s))
        (demodQ s.params (stageThreeLines s)) := by
  obtain ⟨hi, hq, hy⟩ := builtFrame_yiq s
  rw [hy, hi, hq, doYNR_eq, noiseReducer_of_level_eq_zero hynr, doCNR_eq, doCNR_eq, noiseReducer_of_level_eq_zero hcnr,
    noiseReducer_of_level_eq_zero hcnr, lowpassI_eq, lowpassQ_eq, lowpass_of_not_colorlpf hlpf,
    lowpass_of_not_colorlpf hlpf]

theorem level_eq_zero {level : BitVec 8} (h : level = 0#8) : (level.toNat : Int) = 0 := by
  rw [h]
  rfl

/-- Settles O31: unfiltered, `adjustY` subtracts exactly the estimate that was demodulated. -/
theorem lumaIsCompositeMinusChroma : Obligations.LumaIsCompositeMinusChroma := fun s h hlpf hcnr hynr =>
  decf_builds h fun y x hwindow => by
    have hw : Spec.windowOf s.params y x := hwindow
    rw [frame3D_completeDecf_beginDecf, builtFrame_yiq_of_unfiltered hlpf (level_eq_zero hcnr) (level_eq_zero hynr),
      planeAt_adjustY hw, planeAt_demodY hw, stageThreeLines, remodulate_demodLines hw]

end Sys2Proof.Proofs
end

section
/-! PROOFS. Levels whose thresholds are 0: the noise reducers then run and change nothing, so that `DECF` answers as it
does at level 0 (42_iq_demod_filters.md R170 to R174). -/

namespace Sys2Proof.Proofs

open Sys2Proof.Machine

/-! ### A threshold of 0 (42 R170, R174) -/

theorem coreFilter_zero (c : CombParams) (v : Plane) (y x : Nat) : coreFilter c v 0 y x = planeAt v y x := by
  rw [coreFilter, neg_zero, clampInt_eq_max_min _ le_rfl]
  omega

/-- A plane of the active window is what it holds there. -/
theorem activePlane_planeAt (c : CombParams) (f : Nat → Nat → Int) :
    activePlane c (planeAt (activePlane c f)) = activePlane c f :=
  planeTabulate_congr fun y x hy hx => by
    rw [planeAt_activePlane]
    by_cases hactive : c.active y x = true <;> simp [hactive, hy, hx]

/-- A reducer whose threshold is 0 returns its plane, whatever its level. -/
theorem noiseReducer_of_threshold_eq_zero {c : CombParams} {level : Int} (h : threshold c level = 0)
    (f : Nat → Nat → Int) : noiseReducer c level (activePlane c f) = activePlane c f := by
  unfold noiseReducer
  split
  · rfl
  · have hcore : coreFilter c (activePlane c f) 0 = planeAt (activePlane c f) :=
      funext fun y => funext fun x => coreFilter_zero c _ y x
    rw [h, hcore, activePlane_planeAt]

/-- The low-pass gives a plane of the active window. -/
theorem lowpass_activePlane (c : CombParams) (taps : List Int) (f : Nat → Nat → Int) :
    ∃ g, lowpass c taps (activePlane c f) = activePlane c g := by
  unfold lowpass
  split
  · exact ⟨_, rfl⟩
  · exact ⟨f, rfl⟩

theorem noiseReducer_lowpass_of_threshold_eq_zero {c : CombParams} {level : Int} (h : threshold c level = 0)
    (taps : List Int) (f : Nat → Nat → Int) :
    noiseReducer c level (lowpass c taps (activePlane c f)) = lowpass c taps (activePlane c f) := by
  obtain ⟨g, hg⟩ := lowpass_activePlane c taps f
  rw [hg, noiseReducer_of_threshold_eq_zero h]

/-! ### The frame buffer at levels 0 -/

/-- The parameters at levels 0. -/
def withoutLevels (c : CombParams) : CombParams := { c with cnr := 0, ynr := 0 }

/-- With both thresholds 0 the stages 1 to 6 build the frame buffer of levels 0. -/
theorem buildFrame_withoutLevels {c : CombParams} (hcnr : threshold c c.cnr = 0) (hynr : threshold c c.ynr = 0)
    (geom : Geometry) (p1 p2 : BitVec 3) (field1 field2 : Nat → Int) (ref : Option FrameBuffer) :
    buildFrame (withoutLevels c) geom p1 p2 field1 field2 ref = buildFrame c geom p1 p2 field1 field2 ref := by
  have hi (lines : List (List (Int × Int))) : doCNR c (lowpassI c (demodI c lines)) = lowpassI c (demodI c lines) :=
    noiseReducer_lowpass_of_threshold_eq_zero hcnr _ _
  have hq (lines : List (List (Int × Int))) : doCNR c (lowpassQ c (demodQ c lines)) = lowpassQ c (demodQ c lines) :=
    noiseReducer_lowpass_of_threshold_eq_zero hcnr _ _
  have hy (raw : Plane) : doYNR c (demodY c raw) = demodY c raw := noiseReducer_of_threshold_eq_zero hynr _
  unfold buildFrame
  simp only [hi, hq, hy]
  rfl

/-! ### `DECF` at levels 0 -/

/-- The active Comb Configuration at levels 0. -/
def bypassed (cc : CombConfig) : CombConfig := { cc with cnrLevel := 0#8, ynrLevel := 0#8 }

theorem params_bypassed (s : State) : (withActCc s (bypassed s.actCc)).params = withoutLevels s.params := rfl

/-- With both thresholds 0 the completion is the one at levels 0: neither the choice of the reference nor the stages 7
and 8 read a level. -/
theorem completeDecf_bypassed {s : State} (hcnr : threshold s.params s.params.cnr = 0)
    (hynr : threshold s.params s.params.ynr = 0) :
    (withActCc s (bypassed s.actCc)).completeDecf = withActCc s.completeDecf (bypassed s.actCc) := by
  have hframe : (withActCc s (bypassed s.actCc)).builtFrame = s.builtFrame :=
    buildFrame_withoutLevels hcnr hynr _ _ _ _ _ _
  unfold State.completeDecf
  rw [hframe, params_bypassed]
  rfl

/-- Settles O29: the change to levels 0 commutes with `DECF`. -/
theorem smallLevelsAreBypass : Obligations.SmallLevelsAreBypass := by
  refine ⟨fun c v => ⟨fun h => noiseReducer_of_level_eq_zero h v, fun h => noiseReducer_of_level_eq_zero h v⟩,
    fun s t h hcnr hynr => ?_⟩
  rw [← threshold_eq] at hcnr hynr
  exact exec_decf_map (g := fun u => withActCc u (bypassed s.actCc)) rfl rfl rfl (fun _ _ => rfl)
    (completeDecf_bypassed (s := s.beginDecf) hcnr hynr) h

end Sys2Proof.Proofs
end

section
/-! PROOFS. The bounds of every plane of the frame buffer that a `DECF` builds, stage by stage (10_state.md R48;
42_iq_demod_filters.md R182). -/

namespace Sys2Proof.Proofs

open Sys2Proof.Machine

/-! ### What the invariant gives a `DECF` -/

/-- The active configuration of a ready state that satisfies the invariant passes the checks of `CFG`. -/
theorem cfgViolation_eq_none_of_ready {s : State} (hinv : s.inv = true) (h : s.decfReady = true) :
    cfgViolation s.actVp = none := by
  obtain ⟨-, -, hconf, -, -⟩ := inv_iff.mp hinv
  obtain ⟨-, hcheck⟩ := decfReady_iff.mp h
  obtain ⟨hconfigured, -⟩ := decfViolation_eq_none.mp hcheck
  exact (configWf_of_configured (s := s) hconfigured).mp hconf

theorem w100_range {s : State} (h : cfgViolation s.actVp = none) : 0 < s.params.w100 ∧ s.params.w100 ≤ 65535 := by
  obtain ⟨-, -, -, hlevels⟩ := cfgViolation_eq_none.mp h
  have hwhite := s.actVp.white.isLt
  have hw100 : s.params.w100 = s.actVp.white.toNat - s.actVp.black.toNat := rfl
  omega

/-- What holds of every element of a list and of the default holds of what is read at any index. -/
theorem getD_of_forall_mem {α : Type} {P : α → Prop} {l : List α} {d : α} (hl : ∀ v ∈ l, P v) (hd : P d) (k : Nat) :
    P (l.getD k d) := by
  rw [List.getD_eq_getElem?_getD]
  cases hk : l[k]? with
  | none => exact hd
  | some v => exact hl v (List.mem_of_getElem? hk)

/-- A plane of 16-bit samples reads as one at every index, 0 outside it. -/
theorem planeAt_range_of_rawInRange {p : Plane} (h : rawInRange p = true) (y x : Nat) :
    0 ≤ planeAt p y x ∧ planeAt p y x ≤ 65535 := by
  have hlines : ∀ line ∈ p, ∀ v ∈ line, 0 ≤ v ∧ v ≤ 65535 := by simpa [rawInRange] using h
  have hline : ∀ v ∈ p.getD y [], 0 ≤ v ∧ v ≤ 65535 := getD_of_forall_mem hlines (by simp) y
  exact getD_of_forall_mem hline (by decide) x

/-- The samples of the previous frame that the 3D strategy uses are 16-bit values (10 R49). -/
theorem planeAt_reference_raw_range {s : State} {g : FrameBuffer} (hinv : s.inv = true) (href : s.reference = some g)
    (y x : Nat) : 0 ≤ planeAt g.raw y x ∧ planeAt g.raw y x ≤ 65535 := by
  obtain ⟨-, -, -, hprevWf, -⟩ := inv_iff.mp hinv
  obtain ⟨hprev, -⟩ := reference_eq_some_iff.mp href
  obtain ⟨-, -, -, hraw⟩ := (prevWf_of_some hprev).mp hprevWf
  exact planeAt_range_of_rawInRange hraw y x

/-! ### The estimates and the confidence (41 R136 to R147) -/

theorem abs_builtFrame_clp0_le (s : State) (y x : Nat) : |planeAt s.builtFrame.clp0 y x| ≤ 524280 := by
  obtain ⟨v, hv, hlo, hhi⟩ := exists_planeAt_builtFrame_clp0 s y x
  rw [hv, abs_le]
  omega

theorem builtFrame_clp1 (s : State) : s.builtFrame.clp1 = clp1Plane s.params s.builtFrame.clp0 := rfl

theorem abs_builtFrame_clp1_le (s : State) (y x : Nat) : |planeAt s.builtFrame.clp1 y x| ≤ 524280 := by
  by_cases hw : Spec.windowOf s.params y x
  · by_cases hlines : has2D s.params y = true
    · obtain ⟨a, ha, ha0, ha1⟩ := exists_planeAt_builtFrame_clp0 s y x
      obtain ⟨b, hb, hb0, hb1⟩ := exists_planeAt_builtFrame_clp0 s (y - 2) x
      obtain ⟨c, hc, hc0, hc1⟩ := exists_planeAt_builtFrame_clp0 s (y + 2) x
      rw [builtFrame_clp1, planeAt_clp1Plane_of_has2D hw hlines, clp2D_of_multiples ha hb hc, abs_le]
      omega
    · rw [builtFrame_clp1, planeAt_clp1Plane_of_not_has2D hw hlines]
      exact abs_builtFrame_clp0_le s y x
  · rw [(builtFrame_outside_window hw).2.1]
    decide

/-- The two planes of the 3D strategy, which are 0 without a reference and outside the window. -/
theorem builtFrame_planes3D_range {s : State} (hinv : s.inv = true) (hw100 : 0 < s.params.w100) (y x : Nat) :
    |planeAt s.builtFrame.clp2 y x| ≤ 524280 ∧ 0 ≤ planeAt s.builtFrame.kv y x ∧ planeAt s.builtFrame.kv y x ≤ 256 := by
  rw [builtFrame_clp2, builtFrame_kv]
  cases href : s.reference with
  | none =>
    obtain ⟨hclp2, hkv⟩ := planeAt_planes3D_none s.params s.builtFrame.raw y x
    rw [hclp2, hkv]
    decide
  | some g =>
    rw [clp2Plane, kvPlane, planeAt_activePlane_eq, planeAt_activePlane_eq]
    split
    · obtain ⟨hraw0, hraw1⟩ := planeAt_builtFrame_raw_range s y x
      obtain ⟨hprev0, hprev1⟩ := planeAt_reference_raw_range hinv href y x
      rw [clp3D_eq, abs_le]
      exact ⟨by omega, confidence_nonneg _ _,
        (confidence_antitone hw100 (Int.natCast_nonneg _)).trans_eq (confidence_zero _)⟩
    · decide

/-- The estimate handed to demodulation is the 2D estimate or its blend with the 3D estimate. -/
theorem abs_csel_le {f : FrameBuffer} {b : Int} {y x : Nat} (h1 : |planeAt f.clp1 y x| ≤ b)
    (h2 : |planeAt f.clp2 y x| ≤ b) (h0 : 0 ≤ planeAt f.kv y x) (h256 : planeAt f.kv y x ≤ 256) (use3 : Bool) :
    |Spec.csel use3 f y x| ≤ b := by
  cases use3 with
  | false => exact h1
  | true =>
    obtain ⟨hlo1, hhi1⟩ := abs_le.mp h1
    obtain ⟨hlo2, hhi2⟩ := abs_le.mp h2
    exact abs_le.mpr (blend_mem h0 h256 hlo2 hlo1 hhi2 hhi1)

/-! ### Demodulation (42 R160) -/

theorem abs_sign_mul_le {sg v b : Int} (hsg : sg = 1 ∨ sg = -1) (hv : |v| ≤ b) : |sg * v| ≤ b ∧ |-sg * v| ≤ b := by
  rw [neg_mul, abs_neg]
  rcases hsg with rfl | rfl <;> simpa using hv

/-- Each member of the pair is the one held or the estimate up to its sign. -/
theorem abs_demodStep_le {sg e b : Int} {held : Int × Int} (hsg : sg = 1 ∨ sg = -1) (he : |e| ≤ b)
    (h : |held.1| ≤ b ∧ |held.2| ≤ b) (x : Nat) :
    |(demodStep sg x e held).1| ≤ b ∧ |(demodStep sg x e held).2| ≤ b := by
  obtain ⟨h1, h2⟩ := h
  obtain ⟨hpos, hneg⟩ := abs_sign_mul_le hsg he
  unfold demodStep
  split
  · exact ⟨h1, hpos⟩
  · exact ⟨hneg, h2⟩
  · exact ⟨h1, hneg⟩
  · exact ⟨hpos, h2⟩

/-- The pairs of a line are bounded by its estimates, column after column. -/
theorem abs_iqAt_le {c : CombParams} {b : Int} (hb : 0 ≤ b) (p1 p2 : BitVec 3) {csel : Nat → Nat → Int} {y : Nat}
    (hcsel : ∀ x, |csel y x| ≤ b) (k : Nat) (hw : Spec.windowOf c y (c.avs + k)) :
    |(iqAt c (demodLines c p1 p2 csel) y (c.avs + k)).1| ≤ b ∧
      |(iqAt c (demodLines c p1 p2 csel) y (c.avs + k)).2| ≤ b := by
  have hsg := sigma_eq_one_or_neg_one p1 p2 y
  induction k with
  | zero =>
    rw [iqAt_eq_demodStep hw, heldBefore, if_pos (Nat.add_zero c.avs)]
    exact abs_demodStep_le hsg (hcsel _) (by simpa using hb) _
  | succ k ih =>
    have hbefore : Spec.windowOf c y (c.avs + k) := by
      obtain ⟨hy, -, hhi, hwidth⟩ := hw
      exact ⟨hy, by omega, by omega, by omega⟩
    rw [iqAt_eq_demodStep hw, heldBefore, if_neg (by omega), Nat.add_succ_sub_one]
    exact abs_demodStep_le hsg (hcsel _) (ih hbefore) _

/-- The demodulated planes are bounded by the estimates of the line, and 0 outside the window. -/
theorem abs_demodLines_le {c : CombParams} {b : Int} (hb : 0 ≤ b) (p1 p2 : BitVec 3) {csel : Nat → Nat → Int} {y : Nat}
    (hcsel : ∀ x, |csel y x| ≤ b) (x : Nat) :
    |planeAt (demodI c (demodLines c p1 p2 csel)) y x| ≤ b ∧
      |planeAt (demodQ c (demodLines c p1 p2 csel)) y x| ≤ b := by
  by_cases hw : Spec.windowOf c y x
  · obtain ⟨k, rfl⟩ := Nat.exists_eq_add_of_le hw.2.1
    rw [planeAt_demodI hw, planeAt_demodQ hw]
    exact abs_iqAt_le hb p1 p2 hcsel k hw
  · rw [demodI, demodQ, planeAt_activePlane_of_not_window hw, planeAt_activePlane_of_not_window hw]
    simpa using hb

/-! ### The filters (42 R165, R170 to R173) -/

theorem threshold_range {c : CombParams} {level : Int} (h0 : 0 ≤ level) (h255 : level ≤ 255) (hw0 : 0 ≤ c.w100)
    (hw : c.w100 ≤ 65535) : 0 ≤ threshold c level ∧ threshold c level ≤ 167114 := by
  have hproduct : level * c.w100 ≤ 255 * 65535 := Int.mul_le_mul h255 hw hw0 (by decide)
  refine ⟨threshold_nonneg h0 hw0, ?_⟩
  rw [threshold_eq]
  omega

/-- A reducer moves a value of the window by its threshold at most. -/
theorem noiseReducer_mem {c : CombParams} {level : Int} {y x : Nat} (hw : Spec.windowOf c y x)
    (ht : 0 ≤ threshold c level) (v : Plane) :
    planeAt v y x - threshold c level ≤ planeAt (noiseReducer c level v) y x ∧
      planeAt (noiseReducer c level v) y x ≤ planeAt v y x + threshold c level := by
  by_cases hlevel : level = 0
  · rw [noiseReducer_of_level_eq_zero hlevel]
    omega
  · have hclamp := clampInt_bounds (highPass c v y x) (lo := -threshold c level) (hi := threshold c level) (by omega)
    rw [planeAt_noiseReducer_of_window hlevel hw, coreFilter]
    omega

/-- A chroma plane after the stages 4 and 5, from a bound of the line before them. -/
theorem abs_noiseReducer_lowpass_le {c : CombParams} {level b t : Int} {taps : List Int} {v : Plane} {y x : Nat}
    (htaps : smoothing taps) (hw : Spec.windowOf c y x) (hv : ∀ x', |planeAt v y x'| ≤ b)
    (ht : 0 ≤ threshold c level ∧ threshold c level ≤ t) :
    |planeAt (noiseReducer c level (lowpass c taps v)) y x| ≤ b + t := by
  obtain ⟨hlo, hhi⟩ := lowpass_mem htaps hw fun x' _ _ => abs_le.mp (hv x')
  obtain ⟨hlo', hhi'⟩ := noiseReducer_mem hw ht.1 (lowpass c taps v)
  rw [abs_le]
  omega

/-- The re-modulated chroma is one of the two channels up to its sign. -/
theorem abs_remodulate_le {sg i q b : Int} (hsg : sg = 1 ∨ sg = -1) (hi : |i| ≤ b) (hq : |q| ≤ b) (x : Nat) :
    |remodulate sg x i q| ≤ b := by
  obtain ⟨hi0, hi1⟩ := abs_sign_mul_le hsg hi
  obtain ⟨hq0, hq1⟩ := abs_sign_mul_le hsg hq
  unfold remodulate
  split <;> assumption

/-! ### The YIQ planes of a `DECF` (42 R182) -/

/-- Stage 3: the demodulated planes stay within the bounds of the estimates. -/
theorem abs_stageThree_le {s : State} (hinv : s.inv = true) (hw100 : 0 < s.params.w100) (y x : Nat) :
    |planeAt (demodI s.params (stageThreeLines s)) y x| ≤ 524280 ∧
      |planeAt (demodQ s.params (stageThreeLines s)) y x| ≤ 524280 :=
  abs_demodLines_le (by decide) _ _ (fun x => by
    obtain ⟨hclp2, hkv0, hkv256⟩ := builtFrame_planes3D_range hinv hw100 y x
    exact abs_csel_le (abs_builtFrame_clp1_le s y x) hclp2 hkv0 hkv256 _) x

/-- The thresholds of the two levels, whatever the registers hold. -/
theorem threshold_params_range {s : State} (h : cfgViolation s.actVp = none) (level : BitVec 8) :
    0 ≤ threshold s.params level.toNat ∧ threshold s.params level.toNat ≤ 167114 := by
  obtain ⟨hw0, hw⟩ := w100_range h
  have hlevel := level.isLt
  exact threshold_range (by omega) (by omega) hw0.le hw

/-- Stages 4 and 5: the noise reducer adds its threshold to the bound of the chroma. -/
theorem abs_builtFrame_chroma_le {s : State} (hinv : s.inv = true) (h : cfgViolation s.actVp = none) {y x : Nat}
    (hw : Spec.windowOf s.params y x) :
    |planeAt s.builtFrame.yiqI y x| ≤ 691394 ∧ |planeAt s.builtFrame.yiqQ y x| ≤ 691394 := by
  obtain ⟨hi, hq, -⟩ := builtFrame_yiq s
  have hthree := abs_stageThree_le hinv (w100_range h).1 y
  have hcnr := threshold_params_range h s.actCc.cnrLevel
  rw [hi, hq, doCNR_eq, doCNR_eq, lowpassI_eq, lowpassQ_eq]
  exact ⟨abs_noiseReducer_lowpass_le smoothing_firI hw (fun x' => (hthree x').1) hcnr,
    abs_noiseReducer_lowpass_le (smoothing_tapsQ _) hw (fun x' => (hthree x').2) hcnr⟩

/-- Stages 5 and 6: the luma is 16 times a sample, moved by its threshold and by the re-modulated chroma. -/
theorem builtFrame_luma_range {s : State} (hinv : s.inv = true) (h : cfgViolation s.actVp = none) {y x : Nat}
    (hw : Spec.windowOf s.params y x) :
    -858508 ≤ planeAt s.builtFrame.yiqY y x ∧ planeAt s.builtFrame.yiqY y x ≤ 1907068 := by
  obtain ⟨-, -, hy⟩ := builtFrame_yiq s
  obtain ⟨hi, hq⟩ := abs_builtFrame_chroma_le hinv h hw
  obtain ⟨hraw0, hraw1⟩ := planeAt_builtFrame_raw_range s y x
  obtain ⟨hynr0, hynr⟩ : 0 ≤ threshold s.params s.params.ynr ∧ threshold s.params s.params.ynr ≤ 167114 :=
    threshold_params_range h s.actCc.ynrLevel
  have hreduced := noiseReducer_mem hw hynr0 (demodY s.params s.builtFrame.raw)
  have hcomp := abs_le.mp (abs_remodulate_le (sigma_eq_one_or_neg_one s.f1Phase s.f2Phase y) hi hq x)
  rw [planeAt_demodY hw] at hreduced
  rw [hy, planeAt_adjustY hw, doYNR_eq]
  omega

/-- Settles O32: in the window the bounds of the stages, outside it 0. -/
theorem pipelineBounds : Obligations.PipelineBounds := fun s hinv h =>
  decf_builds h fun y x => by
    have hcfg := cfgViolation_eq_none_of_ready hinv h
    obtain ⟨hclp2, hkv⟩ := builtFrame_planes3D_range hinv (w100_range hcfg).1 y x
    refine ⟨planeAt_builtFrame_raw_range s y x, abs_builtFrame_clp0_le s y x, abs_builtFrame_clp1_le s y x, hclp2, hkv,
      and_assoc.mp ?yiq⟩
    case yiq =>
      by_cases hw : Spec.windowOf s.params y x
      · exact ⟨abs_builtFrame_chroma_le hinv hcfg hw, builtFrame_luma_range hinv hcfg hw⟩
      · obtain ⟨-, -, -, -, hy, hi, hq⟩ := builtFrame_outside_window hw
        rw [hy, hi, hq]
        decide

end Sys2Proof.Proofs
end

section
/-! PROOFS. Stage 7 of `DECF` as functions: the two scales, the matrix and the conversion of one YIQ triple
(43_rgb_xform.md R192 to R194, R198). -/

namespace Sys2Proof.Proofs

open Sys2Proof.Machine

/-! ### The scales (43 R192, R193) -/

theorem rdiv_zero {d : Int} (hd : 0 < d) : rdiv 0 d = 0 := by
  simpa using rdiv_mul 0 hd

theorem lumaScale_range (c : CombParams) (v : Int) : 0 ≤ lumaScale c v ∧ lumaScale c v ≤ 65535 :=
  clampInt_bounds _ (by decide)

theorem num_pos (c : CombParams) : 0 < c.num := by
  unfold CombParams.num
  split <;> decide

/-- Every step of the luma scale is monotone: the offset, the factor, the rounded division and the clamp. -/
theorem lumaScale_mono {c : CombParams} (hw100 : 0 < c.w100) {v w : Int} (h : v ≤ w) :
    lumaScale c v ≤ lumaScale c w := by
  have hoffset : (v - 16 * c.black) * 65535 ≤ (w - 16 * c.black) * 65535 := by omega
  have hfactor := mul_le_mul_of_nonneg_right hoffset (num_pos c).le
  rw [lumaScale_eq, lumaScale_eq]
  exact clampInt_mono (by decide) (rdiv_mono (by omega) hfactor)

theorem lumaScale_black {c : CombParams} (hw100 : 0 < c.w100) : lumaScale c (16 * c.black) = 0 := by
  rw [lumaScale_eq, sub_self, zero_mul, zero_mul, rdiv_zero (by omega)]
  rfl

/-- At the white level the numerator is 65535 times the divisor. -/
theorem lumaScale_white {c : CombParams} (hw100 : 0 < c.w100) (h : c.whitePoint75 = false) :
    lumaScale c (16 * c.white) = 65535 := by
  have hnum : c.num = 4 := by simp [CombParams.num, h, Config.wp75Den]
  have hnumerator : (16 * c.white - 16 * c.black) * 65535 * c.num = 65535 * (64 * c.w100) := by
    rw [hnum, CombParams.w100]
    ring
  rw [lumaScale_eq, hnumerator, rdiv_mul _ (by omega)]
  rfl

theorem chromaScale_eq_zero {c : CombParams} (hw100 : 0 < c.w100) {v : Int} (h : v = 0 ∨ c.g = 0) :
    chromaScale c v = 0 := by
  have hnumerator : v * 65535 * c.num * c.g = 0 := by
    rcases h with hv | hg
    · rw [hv, zero_mul, zero_mul, zero_mul]
    · rw [hg, mul_zero]
  rw [chromaScale_eq, hnumerator, rdiv_zero (by omega)]

/-! ### The matrix (43 R194) -/

/-- A row of the matrix with `M_DIV` at its default and the clamp as the statements write it. -/
theorem matrixRow_eq (row : Config.MatrixRow) (yS iS qS : Int) :
    matrixRow row yS iS qS = max 0 (min 65535 (yS + (2 * (row.ci * iS + row.cq * qS) + 1024) / 2048)) :=
  clampInt_eq_max_min _ (by decide)

/-- The matrix as 43 R194 writes it. -/
theorem matrix_eq (yS iS qS : Int) :
    matrix yS iS qS =
      ⟨max 0 (min 65535 (yS + (2 * (979 * iS + 636 * qS) + 1024) / 2048)),
        max 0 (min 65535 (yS + (2 * (-279 * iS - 663 * qS) + 1024) / 2048)),
        max 0 (min 65535 (yS + (2 * (-1134 * iS + 1745 * qS) + 1024) / 2048))⟩ := by
  rw [matrix, matrixRow_eq, matrixRow_eq, matrixRow_eq, sub_eq_add_neg, ← neg_mul]
  rfl

theorem matrixRow_range (row : Config.MatrixRow) (yS iS qS : Int) :
    0 ≤ matrixRow row yS iS qS ∧ matrixRow row yS iS qS ≤ 65535 := clampInt_bounds _ (by decide)

/-- Without chroma a row passes a luma of the output range through. -/
theorem matrixRow_grey (row : Config.MatrixRow) {yS : Int} (h : 0 ≤ yS ∧ yS ≤ 65535) : matrixRow row yS 0 0 = yS := by
  rw [matrixRow_eq, mul_zero, mul_zero]
  omega

theorem matrix_grey {yS : Int} (h : 0 ≤ yS ∧ yS ≤ 65535) : matrix yS 0 0 = ⟨yS, yS, yS⟩ := by
  rw [matrix, matrixRow_grey _ h, matrixRow_grey _ h, matrixRow_grey _ h]

/-- Settles O34: chroma that scales to 0 leaves the matrix its luma; the luma scale is a composition of monotone
steps; and at the two reference levels its division is exact. -/
theorem greyAndLumaScale : Obligations.GreyAndLumaScale := by
  refine ⟨fun c y i q hgrey hw100 => ?_, fun c v w hw100 h => lumaScale_mono hw100 h,
    fun c hw100 hwp => ⟨lumaScale_black hw100, lumaScale_white hw100 hwp⟩⟩
  have hi : chromaScale c i = 0 := chromaScale_eq_zero hw100 (hgrey.imp And.left id)
  have hq : chromaScale c q = 0 := chromaScale_eq_zero hw100 (hgrey.imp And.right id)
  rw [yiqToRgb, hi, hq, matrix_grey (lumaScale_range c y)]

end Sys2Proof.Proofs
end

section
/-! PROOFS. The frame in `RGB` pixel by pixel after stages 7 and 8: what the host reads, and what the overlay flag
changes (43_rgb_xform.md R190 to R197, R199). -/

namespace Sys2Proof.Proofs

open Sys2Proof.Machine

/-! ### A pixel after stages 7 and 8 (43 R190, R196) -/

theorem active_iff_inWindow {s : State} {y x : Nat} (hx : x < s.actVp.fieldWidth.toNat) :
    s.params.active y x = true ↔ Spec.inWindow s y x := by
  rw [CombParams.active_iff]
  change y < 2 * s.actVp.fieldHeight.toNat - 1 ∧ s.actVp.activeStart.toNat ≤ x ∧ x < s.actVp.activeEnd.toNat ↔ _
  unfold Spec.inWindow
  tauto

/-- The pixels that the overlay paints. -/
def overlaid (c : CombParams) (use3 : Bool) (f : FrameBuffer) (y x : Nat) : Prop :=
  c.showFlow = true ∧ use3 = true ∧ c.active y x = true ∧ planeAt f.kv y x < 256

theorem framePixel_of_overlaid {c : CombParams} {use3 : Bool} {f : FrameBuffer} {y x : Nat}
    (h : overlaid c use3 f y x) : framePixel c use3 f y x = overlayColour (planeAt f.kv y x) := by
  obtain ⟨hflow, huse, hactive, hk⟩ := h
  simp [framePixel, hflow, huse, hactive, hk]

theorem framePixel_of_not_overlaid {c : CombParams} {use3 : Bool} {f : FrameBuffer} {y x : Nat}
    (h : ¬overlaid c use3 f y x) : framePixel c use3 f y x = convertedPixel c f y x :=
  if_neg fun hpaint => h (by simpa [overlaid, and_assoc] using hpaint)

theorem convertedPixel_of_active {c : CombParams} {y x : Nat} (h : c.active y x = true) (f : FrameBuffer) :
    convertedPixel c f y x = yiqToRgb c (planeAt f.yiqY y x) (planeAt f.yiqI y x) (planeAt f.yiqQ y x) := if_pos h

theorem convertedPixel_of_not_active {c : CombParams} {y x : Nat} (h : ¬c.active y x = true) (f : FrameBuffer) :
    convertedPixel c f y x = Pixel.black := if_neg h

/-! ### Every component is a 16-bit value (43 R194, R195, R196) -/

/-- What holds of the three components holds of component `k`. -/
theorem comp_of_components {P : Int → Prop} {p : Pixel} (hr : P p.r) (hg : P p.g) (hb : P p.b) (k : Nat) :
    P (p.comp k) := by
  unfold Pixel.comp
  split
  · exact hr
  · exact hg
  · exact hb

/-- A value of an element of `RGB` as an integer (10 R47). -/
def isSampleValue (v : Int) : Prop := 0 ≤ v ∧ v ≤ 65535

theorem isSampleValue_comp_convertedPixel (c : CombParams) (f : FrameBuffer) (y x k : Nat) :
    isSampleValue ((convertedPixel c f y x).comp k) := by
  by_cases hactive : c.active y x = true
  · rw [convertedPixel_of_active hactive]
    exact comp_of_components (matrixRow_range _ _ _ _) (matrixRow_range _ _ _ _) (matrixRow_range _ _ _ _) k
  · rw [convertedPixel_of_not_active hactive]
    have hblack : isSampleValue 0 := ⟨by decide, by decide⟩
    exact comp_of_components hblack hblack hblack k

theorem isSampleValue_comp_overlayColour {kv : Int} (h0 : 0 ≤ kv) (h : kv < 256) (k : Nat) :
    isSampleValue ((overlayColour kv).comp k) := by
  have hfull : isSampleValue 65535 := ⟨by decide, by decide⟩
  have hramp : isSampleValue (255 * kv) := ⟨by omega, by omega⟩
  exact comp_of_components hfull hramp hramp k

theorem planeAt_builtFrame_kv_nonneg (s : State) (y x : Nat) : 0 ≤ planeAt s.builtFrame.kv y x := by
  by_cases hw : Spec.windowOf s.params y x
  · rw [builtFrame_kv]
    cases s.reference with
    | none => exact (planeAt_planes3D_none _ _ y x).2.ge
    | some g =>
      rw [planeAt_kvPlane_some hw]
      exact confidence_nonneg _ _
  · obtain ⟨-, -, -, hkv, -⟩ := builtFrame_outside_window hw
    exact hkv.ge

theorem isSampleValue_comp_framePixel (s : State) (use3 : Bool) (y x k : Nat) :
    isSampleValue ((framePixel s.params use3 s.builtFrame y x).comp k) := by
  by_cases h : overlaid s.params use3 s.builtFrame y x
  · rw [framePixel_of_overlaid h]
    obtain ⟨-, -, -, hk⟩ := h
    exact isSampleValue_comp_overlayColour (planeAt_builtFrame_kv_nonneg s y x) hk k
  · rw [framePixel_of_not_overlaid h]
    exact isSampleValue_comp_convertedPixel _ _ y x k

/-! ### The layout of the frame (10_state.md R47; 43 R199) -/

/-- Element `(y * width + x) * 3 + k` of the frame is component `k` of pixel `(y, x)`. -/
theorem frameElem_at {c : CombParams} {x k : Nat} (hx : x < c.width) (hk : k < 3) (use3 : Bool) (f : FrameBuffer)
    (y : Nat) :
    frameElem c use3 f ((y * c.width + x) * 3 + k) = BitVec.ofInt 16 ((framePixel c use3 f y x).comp k) := by
  have hpixel : ((y * c.width + x) * 3 + k) / 3 = y * c.width + x := by omega
  have hcomp : ((y * c.width + x) * 3 + k) % 3 = k := by omega
  have hline : (y * c.width + x) / c.width = y := by
    rw [Nat.mul_comm, Nat.mul_add_div (by omega), Nat.div_eq_of_lt hx, Nat.add_zero]
  have hcolumn : (y * c.width + x) % c.width = x := by rw [Nat.mul_add_mod_self_right, Nat.mod_eq_of_lt hx]
  rw [frameElem, hpixel, hcomp, hline, hcolumn]

theorem toNat_ofInt_of_isSampleValue {v : Int} (h : isSampleValue v) : ((BitVec.ofInt 16 v).toNat : Int) = v := by
  obtain ⟨h0, h1⟩ := h
  rw [BitVec.toNat_ofInt]
  omega

/-- After a completed `DECF` the host reads the pixels that stages 7 and 8 give. -/
theorem readBuf_rgb_completeDecf {s : State} {y x k : Nat} (hy : y < 2 * s.actVp.fieldHeight.toNat - 1)
    (hx : x < s.actVp.fieldWidth.toNat) (hk : k < 3)
    (hcap : (y * s.actVp.fieldWidth.toNat + x) * 3 + k < Config.rgbCap) :
    ((s.beginDecf.completeDecf.readBuf .rgb ((y * s.actVp.fieldWidth.toNat + x) * 3 + k)).toNat : Int) =
      (framePixel s.params s.reference.isSome s.builtFrame y x).comp k := by
  have hlisted : (y * s.actVp.fieldWidth.toNat + x) * 3 + k < s.params.frameHeight * s.params.width * 3 := by
    have hpixel : y * s.params.width + x < s.params.width * s.params.frameHeight := lineElement_lt hy hx
    rw [Nat.mul_comm s.params.width] at hpixel
    change (y * s.params.width + x) * 3 + k < _
    omega
  have hread : s.beginDecf.completeDecf.readBuf .rgb ((y * s.actVp.fieldWidth.toNat + x) * 3 + k) =
      frameElem s.params s.reference.isSome s.builtFrame ((y * s.actVp.fieldWidth.toNat + x) * 3 + k) := by
    have hstored := (read_frameMemory s.params s.reference.isSome s.builtFrame _).trans (if_pos hlisted)
    exact (if_pos hcap).trans (congrArg (fun v : Option Sample => v.getD _) hstored)
  have helem := frameElem_at (c := s.params) hx hk s.reference.isSome s.builtFrame y
  rw [hread, ← toNat_ofInt_of_isSampleValue (isSampleValue_comp_framePixel s s.reference.isSome y x k)]
  exact congrArg (fun v : Sample => (v.toNat : Int)) helem

/-- The scales in the terms of the statements. -/
theorem lumaScale_params_eq (s : State) (v : Int) :
    lumaScale s.params v = max 0 (min 65535
      ((2 * ((v - 16 * s.actVp.black.toNat) * 65535 * if s.actCc.flags.getLsbD 2 = true then 5 else 4) +
        64 * Spec.w100 s) / (2 * (64 * Spec.w100 s)))) :=
  clampInt_eq_max_min _ (by decide)

/-- Settles O33: the element that the host reads is the component of the pixel, and each clause selects one of its three
cases. -/
theorem hostReadsConvertedPixels : Obligations.HostReadsConvertedPixels := fun s h =>
  decf_builds h fun y x hy hx hcap => by
    have hactive : s.params.active y x = true ↔ Spec.inWindow s y x := active_iff_inWindow hx
    have hread (k : Nat) (hk : k < 3) := readBuf_rgb_completeDecf hy hx hk (Nat.lt_of_le_of_lt (by omega) hcap)
    have hred := hread 0 (by decide)
    have hgreen := hread 1 (by decide)
    have hblue := hread 2 (by decide)
    refine ⟨fun hout => ?outside, fun hin hoverlay => ?overlay, fun hin hoverlay => ?converted⟩
    case outside =>
      have hinactive : ¬s.params.active y x = true := fun ha => hout (hactive.mp ha)
      rw [framePixel_of_not_overlaid fun ⟨_, _, ha, _⟩ => hinactive ha, convertedPixel_of_not_active hinactive]
        at hred hgreen hblue
      exact ⟨hred, hgreen, hblue⟩
    case overlay =>
      obtain ⟨hflow, huse, hk⟩ := hoverlay
      rw [framePixel_of_overlaid ⟨hflow, reference_isSome_iff.mpr huse, hactive.mpr hin, hk⟩] at hred hgreen hblue
      exact ⟨hred, hgreen, hblue⟩
    case converted =>
      have hplain : ¬overlaid s.params s.reference.isSome s.builtFrame y x := fun ⟨hflow, huse, _, hk⟩ =>
        hoverlay ⟨hflow, reference_isSome_iff.mp huse, hk⟩
      rw [framePixel_of_not_overlaid hplain, convertedPixel_of_active (hactive.mpr hin), yiqToRgb, lumaScale_params_eq,
        matrix_eq] at hred hgreen hblue
      exact ⟨hred, hgreen, hblue⟩

/-! ### The overlay flag (43 R197) -/

/-- The low four bits of the flags register are the flags other than the overlay's (10 R33). -/
theorem params_withActCc_overlay (s : State) {fl : BitVec 5}
    (h : fl.extractLsb' 0 4 = s.actCc.flags.extractLsb' 0 4) :
    (withActCc s { s.actCc with flags := fl }).params = withFlags3D s.params s.params.use3D (fl.getLsbD 4) := by
  have hlow : fl.extractLsb' 0 3 = s.actCc.flags.extractLsb' 0 3 := by
    simpa using congrArg (fun v => v.extractLsb' 0 3) h
  have huse : fl.getLsbD 3 = s.actCc.flags.getLsbD 3 := by
    simpa using congrArg (fun v => v.getLsbD 3) h
  rw [params_withActCc_flags s hlow, huse]
  rfl

/-- The choice of the reference and the frame buffer do not read the overlay flag; the frame in `RGB` alone does. -/
theorem completeDecf_withActCc_overlay {s : State} {fl : BitVec 5}
    (h : fl.extractLsb' 0 4 = s.actCc.flags.extractLsb' 0 4) :
    (withActCc s { s.actCc with flags := fl }).completeDecf =
      { withActCc s.completeDecf { s.actCc with flags := fl } with
        rgb := frameMemory (withFlags3D s.params s.params.use3D (fl.getLsbD 4)) s.reference.isSome s.builtFrame } := by
  have hparams := params_withActCc_overlay s h
  have href : (withActCc s { s.actCc with flags := fl }).reference = s.reference := by
    unfold State.reference
    rw [hparams]
    rfl
  have hframe : (withActCc s { s.actCc with flags := fl }).builtFrame = s.builtFrame := by
    unfold State.builtFrame
    rw [hparams, href, buildFrame_withFlags3D]
    rfl
  unfold State.completeDecf
  rw [hframe, hparams, href]
  rfl

/-- At a pixel that the overlay does not paint at any value of the flag, the frame is the same at any value. -/
theorem read_frameMemory_withFlags3D {c : CombParams} {use3 : Bool} {f : FrameBuffer} {y x k : Nat} (hx : x < c.width)
    (hk : k < 3) (h : ¬(c.active y x = true ∧ planeAt f.kv y x < 256)) (use3D showFlow : Bool) :
    Memory.read (frameMemory (withFlags3D c use3D showFlow) use3 f) ((y * c.width + x) * 3 + k) =
      Memory.read (frameMemory c use3 f) ((y * c.width + x) * 3 + k) := by
  have hplain (b u : Bool) : ¬overlaid (withFlags3D c u b) use3 f y x := fun ⟨_, _, hpaint⟩ => h hpaint
  have hpixel : framePixel (withFlags3D c use3D showFlow) use3 f y x = framePixel c use3 f y x :=
    (framePixel_of_not_overlaid (hplain _ _)).trans (framePixel_of_not_overlaid (hplain c.showFlow c.use3D)).symm
  have helem : frameElem (withFlags3D c use3D showFlow) use3 f ((y * c.width + x) * 3 + k) =
      frameElem c use3 f ((y * c.width + x) * 3 + k) := by
    rw [frameElem_at hx hk, ← hpixel]
    exact frameElem_at (c := withFlags3D c use3D showFlow) hx hk use3 f y
  rw [read_frameMemory, read_frameMemory, helem]
  rfl

/-- Settles O36: the two answers differ in the frame memory alone, which is the same without 3D and at every pixel that
is not overlaid. -/
theorem overlayChangesOverlayPixelsOnly : Obligations.OverlayChangesOverlayPixelsOnly := by
  intro s t fl hfl h ht
  obtain rfl : s.beginDecf.completeDecf = t := Host.Outcome.next.inj ((exec_decf_of_ready h).symm.trans ht)
  have hready : (withActCc s { s.actCc with flags := fl }).decfReady = true := h
  refine ⟨frameMemory (withFlags3D s.params s.params.use3D (fl.getLsbD 4)) s.reference.isSome s.builtFrame,
    s.builtFrame, rfl, (exec_decf_of_ready hready).trans ?answer, fun h2D => ?flat,
    fun y x k hx hk hplain => ?pixel⟩
  case answer => exact congrArg _ (completeDecf_withActCc_overlay (s := s.beginDecf) hfl)
  case flat =>
    rw [frame3D_completeDecf_beginDecf] at h2D
    rw [h2D, frameMemory_withFlags3D, ← h2D]
    rfl
  case pixel =>
    refine read_frameMemory_withFlags3D hx hk (fun ⟨hactive, hkv⟩ => ?_) _ _
    rcases hplain with hout | hfull
    · exact hout ((active_iff_inWindow hx).mp hactive)
    · omega

end Sys2Proof.Proofs
end

section
/-! PROOFS. What `VDEC` finds in the six words, and the record it writes from what it finds (44_vbi_decode.md R210 to
R220), so that the rules about the record are read off its fields. -/

namespace Sys2Proof.Proofs

open Sys2Proof.Machine

/-! ### The numbers of a record (10_state.md R41) -/

/-- What holds of both candidates' values holds of the first one found. -/
theorem forall_mem_or {α : Type} {p : α → Prop} {x y : Option α} (hx : ∀ a ∈ x, p a) (hy : ∀ a ∈ y, p a) :
    ∀ a ∈ x.or y, p a := by
  cases x with
  | none => exact hy
  | some a => exact hx

section Number

variable {hi : Nat} {x : Option Nat} (h : ∀ n ∈ x, n ≤ hi) (hhi : hi < 0xFFFFFFFF)
include h hhi

/-- A number that was found is told apart from the absent one. -/
theorem number_eq_absent_iff : Spec.number x = absent ↔ x = none := by
  cases x with
  | none => exact ⟨fun _ => rfl, fun _ => rfl⟩
  | some n => exact ⟨fun he => absurd he (ofNat_ne_absent (Nat.lt_of_le_of_lt (h n rfl) hhi)), fun he => nomatch he⟩

theorem number_absent_or_le : Spec.number x = absent ∨ (Spec.number x).toNat ≤ hi := by
  cases x with
  | none => exact .inl rfl
  | some n =>
    have hn : n ≤ hi := h n rfl
    refine .inr ?_
    rw [Spec.number, BitVec.toNat_ofNat]
    omega

end Number

/-! ### The ranges of the formats (44 R215, R216, R218, R220) -/

theorem picno_le {c : LineWord} : ∀ n ∈ Spec.picno c, n ≤ 79999 := by
  intro n hn
  rw [Option.mem_def, Spec.picno, Option.ite_none_right_eq_some, Option.some.injEq] at hn
  omega

theorem chapter_le {c : LineWord} : ∀ n ∈ Spec.chapter c, n ≤ 79 := by
  intro n hn
  rw [Option.mem_def, Spec.chapter, Option.ite_none_right_eq_some, Option.some.injEq] at hn
  omega

theorem timecode_le {c : LineWord} : ∀ t ∈ Spec.timecode c, t.1 ≤ 9 ∧ t.2 ≤ 59 := by
  rintro ⟨hour, minute⟩ ht
  rw [Option.mem_def, Spec.timecode, Option.ite_none_right_eq_some, Option.some.injEq, Prod.mk.injEq] at ht
  omega

theorem clvsec_le {c : LineWord} : ∀ t ∈ Spec.clvsec c, t.1 ≤ 59 ∧ t.2 ≤ 99 := by
  rintro ⟨second, picture⟩ ht
  rw [Option.mem_def, Spec.clvsec, Option.ite_none_right_eq_some, Option.some.injEq, Prod.mk.injEq] at ht
  omega

/-! ### What the steps 2 to 7 find (44 R215 to R220) -/

/-- The picture number of step 2 (44 R215). -/
def foundPicno (w : VbiWords) : Option Nat := (Spec.picno w.w117).or (Spec.picno w.w118)

/-- The hour and minute of step 3, which runs without a picture number (44 R216). -/
def foundClock (w : VbiWords) : Option (Nat × Nat) :=
  if foundPicno w = none then (Spec.timecode w.w117).or (Spec.timecode w.w118) else none

/-- The disc type of step 4 (44 R217). -/
def foundType (w : VbiWords) : BitVec 2 :=
  if foundPicno w ≠ none then typeCav
  else if foundClock w ≠ none ∨ w.w216 = clvmarkWord then typeClv else typeUnknown

/-- The chapter number of step 5 (44 R218). -/
def foundChapter (w : VbiWords) : Option Nat :=
  if foundType w = typeClv then Spec.chapter w.w218 else (Spec.chapter w.w217).or (Spec.chapter w.w218)

/-- The picture stop of step 6 (44 R219). -/
abbrev FoundStop (w : VbiWords) : Prop := w.w216 = stopWord ∨ w.w217 = stopWord

/-- The second and picture-in-second of step 7 (44 R220). -/
def foundSecond (w : VbiWords) : Option (Nat × Nat) := (Spec.clvsec w.w116).or (Spec.clvsec w.w216)

section Ranges

variable {w : VbiWords}

theorem foundPicno_le : ∀ n ∈ foundPicno w, n ≤ 79999 := forall_mem_or picno_le picno_le

theorem foundClock_le : ∀ t ∈ foundClock w, t.1 ≤ 9 ∧ t.2 ≤ 59 := by
  unfold foundClock
  split
  · exact forall_mem_or timecode_le timecode_le
  · exact fun _ ht => nomatch ht

theorem foundHour_le : ∀ n ∈ (foundClock w).map Prod.fst, n ≤ 9 :=
  Option.forall_mem_map.mpr fun t ht => (foundClock_le t ht).1

theorem foundMinute_le : ∀ n ∈ (foundClock w).map Prod.snd, n ≤ 59 :=
  Option.forall_mem_map.mpr fun t ht => (foundClock_le t ht).2

theorem foundChapter_le : ∀ n ∈ foundChapter w, n ≤ 79 := by
  unfold foundChapter
  split
  · exact chapter_le
  · exact forall_mem_or chapter_le chapter_le

theorem foundSecond_le : ∀ t ∈ foundSecond w, t.1 ≤ 59 ∧ t.2 ≤ 99 := forall_mem_or clvsec_le clvsec_le

theorem foundSecond_fst_le : ∀ n ∈ (foundSecond w).map Prod.fst, n ≤ 59 :=
  Option.forall_mem_map.mpr fun t ht => (foundSecond_le t ht).1

theorem foundSecond_snd_le : ∀ n ∈ (foundSecond w).map Prod.snd, n ≤ 99 :=
  Option.forall_mem_map.mpr fun t ht => (foundSecond_le t ht).2

theorem number_picno_eq_absent_iff : Spec.number (foundPicno w) = absent ↔ foundPicno w = none :=
  number_eq_absent_iff foundPicno_le (by decide)

theorem number_hour_eq_absent_iff : Spec.number ((foundClock w).map Prod.fst) = absent ↔ foundClock w = none := by
  rw [number_eq_absent_iff foundHour_le (by decide), Option.map_eq_none_iff]

theorem number_minute_eq_absent_iff : Spec.number ((foundClock w).map Prod.snd) = absent ↔ foundClock w = none := by
  rw [number_eq_absent_iff foundMinute_le (by decide), Option.map_eq_none_iff]

theorem number_second_eq_absent_iff : Spec.number ((foundSecond w).map Prod.fst) = absent ↔ foundSecond w = none := by
  rw [number_eq_absent_iff foundSecond_fst_le (by decide), Option.map_eq_none_iff]

theorem number_picture_eq_absent_iff :
    Spec.number ((foundSecond w).map Prod.snd) = absent ↔ foundSecond w = none := by
  rw [number_eq_absent_iff foundSecond_snd_le (by decide), Option.map_eq_none_iff]

end Ranges

/-! ### The steps on a record that does not hold their numbers yet -/

section Steps

variable (w : VbiWords) {r : VbiRec}

theorem firstValid_pair {α : Type} (format : LineWord → Option α) (c d : LineWord) :
    firstValid format [c, d] = (format c).or (format d) := by
  rw [firstValid_cons, firstValid_cons, firstValid_nil, Option.or_none]

theorem vdecPicno_eq (h : r.picNo = absent) : vdecPicno w r = { r with picNo := Spec.number (foundPicno w) } := by
  rw [vdecPicno, firstValid_pair, ← spec_picno_eq, ← spec_picno_eq]
  change r.applyFound (foundPicno w) _ = _
  cases foundPicno w with
  | none => change r = { r with picNo := absent }; rw [← h]
  | some n => rfl

theorem vdecTimecode_eq (hpicno : r.picNo = Spec.number (foundPicno w)) (hhour : r.clvHr = absent)
    (hminute : r.clvMin = absent) :
    vdecTimecode w r =
      { r with
        clvHr := Spec.number ((foundClock w).map Prod.fst), clvMin := Spec.number ((foundClock w).map Prod.snd) } := by
  have hnone : r = { r with clvHr := absent, clvMin := absent } := by cases r; cases hhour; cases hminute; rfl
  have habsent : r.picNo = absent ↔ foundPicno w = none := hpicno ▸ number_picno_eq_absent_iff
  simp only [vdecTimecode, foundClock, habsent, firstValid_pair, ← spec_timecode_eq]
  split
  · cases (Spec.timecode w.w117).or (Spec.timecode w.w118) with
    | none => exact hnone
    | some t => rfl
  · exact hnone

theorem vdecType_eq (hpicno : r.picNo = Spec.number (foundPicno w))
    (hhour : r.clvHr = Spec.number ((foundClock w).map Prod.fst)) :
    vdecType w r = { r with discType := foundType w } := by
  simp only [vdecType, VbiRec.settleType, foundType, hpicno, hhour, ne_eq, number_picno_eq_absent_iff,
    number_hour_eq_absent_iff, beq_iff_eq]

theorem vdecChapter_eq (htype : r.discType = foundType w) (h : r.chNo = absent) :
    vdecChapter w r = { r with chNo := Spec.number (foundChapter w) } := by
  have hfound : firstValid chapterOfWord (if r.discType = typeClv then [w.w218] else [w.w217, w.w218]) =
      foundChapter w := by
    rw [htype, foundChapter, apply_ite (firstValid chapterOfWord), firstValid_pair, firstValid_cons, firstValid_nil,
      Option.or_none, spec_chapter_eq, spec_chapter_eq]
  rw [vdecChapter, hfound]
  cases foundChapter w with
  | none => change r = { r with chNo := absent }; rw [← h]
  | some n => rfl

theorem vdecStop_eq (h : r.flags = 0#13) :
    vdecStop w r = { r with flags := if FoundStop w then 4#13 else 0#13 } := by
  rw [vdecStop, VbiRec.markIf]
  simp only [Bool.or_eq_true, beq_iff_eq]
  split
  · rw [h]; rfl
  · rw [← h]

theorem vdecClvsec_eq (hsecond : r.clvSec = absent) (hpicture : r.clvPicNo = absent) :
    vdecClvsec w r =
      { r with
        clvSec := Spec.number ((foundSecond w).map Prod.fst)
        clvPicNo := Spec.number ((foundSecond w).map Prod.snd) } := by
  rw [vdecClvsec, firstValid_pair, ← spec_clvsec_eq, ← spec_clvsec_eq]
  change r.applyFound (foundSecond w) _ = _
  cases foundSecond w with
  | none => cases r; cases hsecond; cases hpicture; rfl
  | some t => rfl

end Steps

/-! ### The record before the programme status (44 R213 to R220) -/

/-- The record of the steps 2 to 7: what they find, over `VBI_DEFAULT`. -/
def numericRecord (w : VbiWords) : VbiRec :=
  { VbiRec.default with
    discType := foundType w
    picNo := Spec.number (foundPicno w)
    chNo := Spec.number (foundChapter w)
    clvHr := Spec.number ((foundClock w).map Prod.fst)
    clvMin := Spec.number ((foundClock w).map Prod.snd)
    clvSec := Spec.number ((foundSecond w).map Prod.fst)
    clvPicNo := Spec.number ((foundSecond w).map Prod.snd)
    flags := if FoundStop w then 4#13 else 0#13 }

theorem vdecNumeric_default (w : VbiWords) : vdecNumeric w VbiRec.default = numericRecord w := by
  rw [vdecNumeric, vdecPicno_eq w rfl, vdecTimecode_eq w rfl rfl rfl, vdecType_eq w rfl rfl, vdecChapter_eq w rfl rfl,
    vdecStop_eq w rfl, vdecClvsec_eq w rfl rfl]
  rfl

theorem lines1718Hold_iff {w : VbiWords} {c : LineWord} : w.lines1718Hold c = true ↔ Spec.onLines1718 w c := by
  simp only [VbiWords.lines1718Hold, Bool.or_eq_true, beq_iff_eq, or_assoc, eq_comm (b := c)]

/-- The record of step 1: the two lead flags over `VBI_DEFAULT` (44 R213). -/
def leadRecord (w : VbiWords) : VbiRec := vdecLead w VbiRec.default

/-- Step 1 writes bits 0 and 1 of the flags and nothing else. -/
theorem leadRecord_eq (w : VbiWords) :
    leadRecord w =
      { VbiRec.default with
        flags :=
          0#11 ++ BitVec.ofBool (w.lines1718Hold leadoutWord) ++ BitVec.ofBool (w.lines1718Hold leadinWord) } := by
  rw [leadRecord, vdecLead]
  cases w.lines1718Hold leadoutWord <;> cases w.lines1718Hold leadinWord <;> rfl

theorem leadRecord_leadInOut {w : VbiWords} : (leadRecord w).leadInOut = true ↔ ¬Spec.noLead w := by
  have hbits : (leadRecord w).leadInOut = (w.lines1718Hold leadinWord || w.lines1718Hold leadoutWord) := by
    rw [leadRecord_eq]
    cases w.lines1718Hold leadoutWord <;> cases w.lines1718Hold leadinWord <;> rfl
  rw [hbits, Bool.or_eq_true, lines1718Hold_iff, lines1718Hold_iff, Spec.noLead, not_and_or, not_not, not_not]
  rfl

/-- Without a sentinel step 1 leaves `VBI_DEFAULT`. -/
theorem leadRecord_of_noLead {w : VbiWords} (h : Spec.noLead w) : leadRecord w = VbiRec.default := by
  obtain ⟨hleadin, hleadout⟩ := h
  have hin : w.lines1718Hold leadinWord = false := Bool.eq_false_iff.mpr fun he => hleadin (lines1718Hold_iff.mp he)
  have hout : w.lines1718Hold leadoutWord = false := Bool.eq_false_iff.mpr fun he => hleadout (lines1718Hold_iff.mp he)
  rw [leadRecord_eq, hin, hout]
  rfl

/-- The record of the steps 1 to 7. -/
def recordBeforeStatus (w : VbiWords) : VbiRec := if Spec.noLead w then numericRecord w else leadRecord w

/-- Without a sentinel the steps 2 to 8 run, with one the steps 8 and 9 (44 R214, R229). -/
theorem vdecRecord_eq (w : VbiWords) :
    vdecRecord w =
      if Spec.noLead w then vdecStatus w (recordBeforeStatus w)
      else vdecUsercode w (vdecStatus w (recordBeforeStatus w)) := by
  change (if (leadRecord w).leadInOut then
      vdecUsercode w (vdecStatus w ((leadRecord w).unlessLead (vdecNumeric w)))
    else vdecStatus w ((leadRecord w).unlessLead (vdecNumeric w))) = _
  by_cases h : Spec.noLead w
  · have hlead : ¬(leadRecord w).leadInOut = true := fun hl => leadRecord_leadInOut.mp hl h
    rw [if_neg hlead, if_pos h, recordBeforeStatus, if_pos h, VbiRec.unlessLead, if_neg hlead, leadRecord_of_noLead h,
      vdecNumeric_default]
  · have hlead : (leadRecord w).leadInOut = true := leadRecord_leadInOut.mpr h
    rw [if_pos hlead, if_neg h, recordBeforeStatus, if_neg h, VbiRec.unlessLead, if_pos hlead]


/-! ### The programme status over a record (44 R225, R227, R228) -/

theorem vdecStatus_of_none {w : VbiWords} (h : firstStatus w = none) (r : VbiRec) : vdecStatus w r = r := by
  rw [vdecStatus, h]
  rfl

theorem vdecStatus_of_some {w : VbiWords} {c : LineWord} {cxOn : Bool} (h : firstStatus w = some (c, cxOn))
    (r : VbiRec) :
    vdecStatus w r =
      { r with
        flags := flagsAfterStatus r cxOn (c.extractLsb' 8 4) (c.extractLsb' 4 4) (c.extractLsb' 0 4)
        sound := statusSound (c.extractLsb' 8 4) (c.extractLsb' 4 4) } := by
  rw [vdecStatus, h]
  rfl

/-- Step 8 writes the flags and the sound modes alone. -/
theorem vdecStatus_frame (w : VbiWords) (r : VbiRec) :
    vdecStatus w r = { r with flags := (vdecStatus w r).flags, sound := (vdecStatus w r).sound } := by
  cases h : firstStatus w with
  | none => rw [vdecStatus_of_none h]
  | some found => rw [vdecStatus_of_some h]

/-- A programme status keeps `leadIn`, `leadOut` and `picStop` (10 R42). -/
theorem flagsAfterStatus_low (r : VbiRec) (cxOn : Bool) (x3 x4 x5 : BitVec 4) {k : Nat} (hk : k < 3) :
    (flagsAfterStatus r cxOn x3 x4 x5).getLsbD k = r.flags.getLsbD k := by
  have happend : (flagsAfterStatus r cxOn x3 x4 x5).getLsbD k = (r.flags.extractLsb' 0 3).getLsbD k :=
    BitVec.getLsbD_append.trans (if_pos hk)
  rw [happend, BitVec.getLsbD_extractLsb', decide_eq_true hk, Bool.true_and, Nat.zero_add]

theorem vdecStatus_flags_low (w : VbiWords) (r : VbiRec) {k : Nat} (hk : k < 3) :
    (vdecStatus w r).flags.getLsbD k = r.flags.getLsbD k := by
  cases h : firstStatus w with
  | none => rw [vdecStatus_of_none h]
  | some found => rw [vdecStatus_of_some h]; exact flagsAfterStatus_low r _ _ _ _ hk

/-! ### The fields of the record `VDEC` writes (44 R210, R214) -/

/-- Step 9 writes the user code alone. -/
theorem vdecUsercode_frame (w : VbiWords) (r : VbiRec) :
    vdecUsercode w r = { r with userCode := (vdecUsercode w r).userCode } := by
  rw [vdecUsercode]
  cases firstValid usercodeOfWord [w.w116, w.w216] <;> rfl

/-- The numbers, the type and the user code of `VDEC` apart from the programme status. -/
theorem vdecRecord_frame (w : VbiWords) :
    vdecRecord w =
      { recordBeforeStatus w with
        flags := (vdecStatus w (recordBeforeStatus w)).flags
        sound := (vdecStatus w (recordBeforeStatus w)).sound
        userCode := (vdecRecord w).userCode } := by
  rw [vdecRecord_eq]
  split
  · rw [vdecStatus_frame]
  · rw [vdecUsercode_frame, vdecStatus_frame]

theorem vdecRecord_flags_low (w : VbiWords) {k : Nat} (hk : k < 3) :
    (vdecRecord w).flags.getLsbD k = (recordBeforeStatus w).flags.getLsbD k := by
  rw [vdecRecord_frame]
  exact vdecStatus_flags_low w _ hk

theorem recordBeforeStatus_of_noLead {w : VbiWords} (h : Spec.noLead w) : recordBeforeStatus w = numericRecord w :=
  if_pos h

theorem recordBeforeStatus_of_lead {w : VbiWords} (h : ¬Spec.noLead w) : recordBeforeStatus w = leadRecord w :=
  if_neg h

theorem exec_vdec_of_noFault {s : State} (h : s.status.fault = false) :
    exec .vdec s = .next { s with vr := vdecRecord s.vw } := by
  change execVdec s = _
  rw [execVdec, unlessFault_eq_next]
  exact .inr ⟨h, rfl⟩

end Sys2Proof.Proofs
end

section
/-! PROOFS. The rules about the record `VDEC` writes (44_vbi_decode.md R213 to R231). -/

namespace Sys2Proof.Proofs

open Sys2Proof.Machine

/-! ### The flags of steps 1 and 6 (44 R213, R219) -/

theorem numericRecord_leadFlags (w : VbiWords) {k : Nat} (hk : k < 2) : (numericRecord w).flags.getLsbD k = false := by
  change (if FoundStop w then 4#13 else 0#13).getLsbD k = false
  split <;> interval_cases k <;> rfl

theorem numericRecord_picStop (w : VbiWords) : (numericRecord w).flags.getLsbD 2 = true ↔ FoundStop w := by
  change (if FoundStop w then 4#13 else 0#13).getLsbD 2 = true ↔ FoundStop w
  split <;> simp [*]

/-- Step 1 sets `leadIn` and `leadOut` by their sentinels and leaves `picStop` 0. -/
theorem leadRecord_flags (w : VbiWords) :
    (leadRecord w).flags.getLsbD 0 = w.lines1718Hold leadinWord ∧
      (leadRecord w).flags.getLsbD 1 = w.lines1718Hold leadoutWord ∧ (leadRecord w).flags.getLsbD 2 = false := by
  rw [leadRecord_eq]
  cases w.lines1718Hold leadoutWord <;> cases w.lines1718Hold leadinWord <;> exact ⟨rfl, rfl, rfl⟩

/-- The lead flags are those of step 1, whatever the later steps do. -/
theorem vdecRecord_leadFlags (w : VbiWords) {k : Nat} (hk : k < 2) :
    (vdecRecord w).flags.getLsbD k = (leadRecord w).flags.getLsbD k := by
  rw [vdecRecord_flags_low w (by omega)]
  by_cases h : Spec.noLead w
  · rw [recordBeforeStatus_of_noLead h, numericRecord_leadFlags w hk, leadRecord_of_noLead h]
    exact BitVec.getLsbD_zero.symm
  · rw [recordBeforeStatus_of_lead h]

theorem vdecRecord_leadIn_iff {w : VbiWords} :
    (vdecRecord w).flags.getLsbD 0 = true ↔ Spec.onLines1718 w 0x88FFFF#24 := by
  obtain ⟨hin, -, -⟩ := leadRecord_flags w
  rw [vdecRecord_leadFlags w (by decide), hin, lines1718Hold_iff]
  rfl

theorem vdecRecord_leadOut_iff {w : VbiWords} :
    (vdecRecord w).flags.getLsbD 1 = true ↔ Spec.onLines1718 w 0x80EEEE#24 := by
  obtain ⟨-, hout, -⟩ := leadRecord_flags w
  rw [vdecRecord_leadFlags w (by decide), hout, lines1718Hold_iff]
  rfl

theorem vdecRecord_picStop_of_lead {w : VbiWords} (h : ¬Spec.noLead w) :
    (vdecRecord w).flags.getLsbD 2 = false := by
  obtain ⟨-, -, hstop⟩ := leadRecord_flags w
  rw [vdecRecord_flags_low w (by decide), recordBeforeStatus_of_lead h, hstop]

theorem vdecRecord_picStop_iff {w : VbiWords} (h : Spec.noLead w) :
    (vdecRecord w).flags.getLsbD 2 = true ↔ FoundStop w := by
  rw [vdecRecord_flags_low w (by decide), recordBeforeStatus_of_noLead h, numericRecord_picStop]

/-- In lead-in or lead-out the type and the numbers are those of `VBI_DEFAULT` (44 R214). -/
theorem vdecRecord_of_lead {w : VbiWords} (h : ¬Spec.noLead w) :
    (vdecRecord w).discType = 0#2 ∧ (vdecRecord w).picNo = 0xFFFFFFFF#32 ∧ (vdecRecord w).chNo = 0xFFFFFFFF#32 ∧
      (vdecRecord w).clvHr = 0xFFFFFFFF#32 ∧ (vdecRecord w).clvMin = 0xFFFFFFFF#32 ∧
      (vdecRecord w).clvSec = 0xFFFFFFFF#32 ∧ (vdecRecord w).clvPicNo = 0xFFFFFFFF#32 ∧
      (vdecRecord w).flags.getLsbD 2 = false := by
  have hstop := vdecRecord_picStop_of_lead h
  rw [vdecRecord_frame, recordBeforeStatus_of_lead h, leadRecord_eq] at hstop ⊢
  exact ⟨rfl, rfl, rfl, rfl, rfl, rfl, rfl, hstop⟩

/-- Settles O39: the lead flags are those of step 1, and with either the steps 2 to 7 leave `VBI_DEFAULT`. -/
theorem vdecLeadFlags : Obligations.VdecLeadFlags := fun s hfault =>
  ⟨vdecRecord s.vw, exec_vdec_of_noFault hfault, vdecRecord_leadIn_iff, vdecRecord_leadOut_iff, vdecRecord_of_lead⟩

/-- Settles O40: outside lead-in and lead-out the fields are those of the record of the steps 2 to 7. -/
theorem vdecNumbersAndType : Obligations.VdecNumbersAndType := fun s hfault hlead =>
  ⟨vdecRecord s.vw, exec_vdec_of_noFault hfault, by
    rw [vdecRecord_frame, recordBeforeStatus_of_noLead hlead]
    exact ⟨rfl, rfl, rfl, rfl⟩⟩

/-- Settles O41: outside lead-in and lead-out the fields are those of the record of the steps 2 to 7. -/
theorem vdecChapterStopSecond : Obligations.VdecChapterStopSecond := fun s hfault hlead =>
  ⟨vdecRecord s.vw, exec_vdec_of_noFault hfault, by
    have hstop := vdecRecord_picStop_iff hlead
    rw [vdecRecord_frame, recordBeforeStatus_of_noLead hlead] at hstop ⊢
    exact ⟨rfl, hstop, rfl, rfl⟩⟩

/-! ### The programme status (44 R225, R227, R228) -/

theorem firstStatus_eq (w : VbiWords) :
    firstStatus w =
      ((statusOfWord w.w116).map fun cx => (w.w116, cx)).or ((statusOfWord w.w216).map fun cx => (w.w216, cx)) :=
  firstValid_pair _ _ _

theorem firstStatus_eq_none {w : VbiWords} (h1 : ¬Spec.isStatus w.w116) (h2 : ¬Spec.isStatus w.w216) :
    firstStatus w = none := by
  rw [firstStatus_eq, statusOfWord_eq_none_iff.mpr h1, statusOfWord_eq_none_iff.mpr h2]
  rfl

/-- A programme status word is read with its CX reading (44 R225). -/
theorem statusOfWord_of_isStatus {c : LineWord} (h : Spec.isStatus c) :
    statusOfWord c = some (decide (c.toNat / 0x1000 = 0x8DC)) := by
  rw [statusOfWord_eq]
  by_cases hcx : c.toNat / 0x1000 = 0x8DC
  · rw [if_pos hcx, decide_eq_true hcx]
  · rw [if_neg hcx, if_pos (h.resolve_left hcx), decide_eq_false hcx]

/-- The word of field 1 comes first (44 R228). -/
theorem firstStatus_eq_some {w : VbiWords} {c : LineWord}
    (h : (Spec.isStatus w.w116 ∧ c = w.w116) ∨ (¬Spec.isStatus w.w116 ∧ Spec.isStatus w.w216 ∧ c = w.w216)) :
    firstStatus w = some (c, decide (c.toNat / 0x1000 = 0x8DC)) := by
  rw [firstStatus_eq]
  rcases h with ⟨h1, rfl⟩ | ⟨h1, h2, rfl⟩
  · rw [statusOfWord_of_isStatus h1]
    rfl
  · rw [statusOfWord_eq_none_iff.mpr h1, statusOfWord_of_isStatus h2]
    rfl

/-- Before step 8 the status flags are 0 and the sound modes `futureUse` (10_state.md R45). -/
theorem recordBeforeStatus_defaults (w : VbiWords) :
    (recordBeforeStatus w).flags.toNat / 8 = 0 ∧ (recordBeforeStatus w).sound = 0xBB#8 := by
  by_cases h : Spec.noLead w
  · rw [recordBeforeStatus_of_noLead h]
    refine ⟨?_, rfl⟩
    change (if FoundStop w then 4#13 else 0#13).toNat / 8 = 0
    split <;> rfl
  · rw [recordBeforeStatus_of_lead h, leadRecord_eq]
    refine ⟨?_, rfl⟩
    cases w.lines1718Hold leadoutWord <;> cases w.lines1718Hold leadinWord <;> rfl

/-- Bit `k` of a field is bit `s + k` of the word (30 R91). -/
theorem extractLsb'_bit {n s m k : Nat} (x : BitVec n) (hk : k < m) :
    (x.extractLsb' s m).toNat / 2 ^ k % 2 = x.toNat / 2 ^ (s + k) % 2 := by
  rw [← toNat_getLsbD, ← toNat_getLsbD, BitVec.getLsbD_extractLsb', decide_eq_true hk, Bool.true_and]

/-- The ten status flags of a word as a sum over its bits and the row `a` of `AUD` (44 R225, R226, R227). -/
theorem statusFlags_of_word (cxOn : Bool) (c : LineWord) :
    let bit := fun k : Nat => c.toNat / 2 ^ k % 2
    let a := Spec.aud.getD (8 * bit 7 + 4 * bit 8 + 2 * bit 6 + bit 5) (0, 0, 0)
    let ok := (bit 3 + bit 7 + bit 6 + bit 4) % 2 = 0 ∧ (bit 2 + bit 7 + bit 5 + bit 4) % 2 = 0 ∧
      (bit 1 + bit 6 + bit 5 + bit 4) % 2 = 0
    (statusFlags cxOn (c.extractLsb' 8 4) (c.extractLsb' 4 4) (c.extractLsb' 0 4)).toNat =
      cxOn.toNat + 2 * (1 - bit 11) + 4 * (1 - bit 10) + 8 * bit 9 + 16 * a.1 + 32 * a.2.1 + 64 * bit 7
        + 128 * (if ok then 1 else 0) + 256 * bit 8 + 512 * bit 7 := by
  have hparity (x4 x5 : BitVec 4) : (parityOk x4 x5).toNat = if parityOk x4 x5 = true then 1 else 0 :=
    Bool.cond_eq_ite ..
  simp only [parityOk_iff] at hparity
  have hindex := audioIndex_toNat (c.extractLsb' 8 4) (c.extractLsb' 4 4)
  simp only [extractLsb'_bit, Nat.reduceLT, Nat.reduceAdd] at hindex
  simp only [statusFlags_toNat, hparity, extractLsb'_bit, Nat.reduceLT, Nat.reduceAdd]
  rw [← hindex, audioTable_eq]
  dsimp only
  omega

/-- The two sound modes of a word are a row of `AUD` and a row of `AUD2` (44 R227). -/
theorem statusSound_of_word (c : LineWord) :
    let bit := fun k : Nat => c.toNat / 2 ^ k % 2
    (statusSound (c.extractLsb' 8 4) (c.extractLsb' 4 4)).toNat =
      (Spec.aud.getD (8 * bit 7 + 4 * bit 8 + 2 * bit 6 + bit 5) (0, 0, 0)).2.2
        + 16 * Spec.aud2.getD (4 * bit 6 + 2 * bit 5 + bit 4) 0 := by
  have hindex := audioIndex_toNat (c.extractLsb' 8 4) (c.extractLsb' 4 4)
  simp only [extractLsb'_bit, Nat.reduceLT, Nat.reduceAdd] at hindex
  have hindexAm2 : (audioIndexAm2 (c.extractLsb' 4 4)).toNat =
      4 * (c.toNat / 2 ^ 6 % 2) + 2 * (c.toNat / 2 ^ 5 % 2) + c.toNat / 2 ^ 4 % 2 := by
    rw [audioIndexAm2_toNat, extractLsb'_toNat_eq_div_mod]
    omega
  dsimp only
  rw [← hindex, ← hindexAm2, audioTable_eq, audioTableAm2_eq, statusSound_toNat]

theorem vdecRecord_flags_eq (w : VbiWords) :
    (vdecRecord w).flags = (vdecStatus w (recordBeforeStatus w)).flags := by
  rw [vdecRecord_frame]

theorem vdecRecord_sound_eq (w : VbiWords) :
    (vdecRecord w).sound = (vdecStatus w (recordBeforeStatus w)).sound := by
  rw [vdecRecord_frame]

/-- Settles O42: step 8 reads the first status word into the flags and the sound modes, or leaves their defaults. -/
theorem vdecProgrammeStatus : Obligations.VdecProgrammeStatus := by
  intro s hfault
  obtain ⟨hflags, hsound⟩ := recordBeforeStatus_defaults s.vw
  refine ⟨vdecRecord s.vw, exec_vdec_of_noFault hfault, fun h1 h2 => ?_, fun c hc => ⟨?_, ?_⟩⟩
  · rw [vdecRecord_flags_eq, vdecRecord_sound_eq, vdecStatus_of_none (firstStatus_eq_none h1 h2)]
    exact ⟨hflags, hsound⟩
  · have hhigh (cxOn : Bool) (x3 x4 x5 : BitVec 4) :
        (flagsAfterStatus (recordBeforeStatus s.vw) cxOn x3 x4 x5).toNat / 8 = (statusFlags cxOn x3 x4 x5).toNat := by
      rw [flagsAfterStatus_toNat]
      omega
    rw [vdecRecord_flags_eq, vdecStatus_of_some (firstStatus_eq_some hc), hhigh, statusFlags_of_word, Bool.toNat,
      Bool.cond_decide]
  · rw [vdecRecord_sound_eq, vdecStatus_of_some (firstStatus_eq_some hc)]
    exact statusSound_of_word c

/-! ### The user code (44 R229) -/

/-- `ucValid` over the four digits as a number (10_state.md R44). -/
theorem withUsercode_userCode (r : VbiRec) (uc : BitVec 16) :
    (r.withUsercode uc).userCode = BitVec.ofNat 17 (0x10000 + uc.toNat) :=
  BitVec.eq_of_toNat_eq (by
    rw [VbiRec.withUsercode, toNat_append_eq_add, BitVec.toNat_ofNat, BitVec.toNat_ofNat]
    omega)

theorem vdecUsercode_userCode (w : VbiWords) {r : VbiRec} (h : r.userCode = 0#17) :
    (vdecUsercode w r).userCode =
      ((Spec.usercode w.w116).or (Spec.usercode w.w216)).elim 0#17 fun u => BitVec.ofNat 17 (0x10000 + u) := by
  rw [vdecUsercode, firstValid_pair, spec_usercode_eq, spec_usercode_eq, ← Option.map_or]
  cases (usercodeOfWord w.w116).or (usercodeOfWord w.w216) with
  | none => exact h
  | some uc => exact withUsercode_userCode r uc

theorem recordBeforeStatus_userCode (w : VbiWords) : (recordBeforeStatus w).userCode = 0#17 := by
  by_cases h : Spec.noLead w
  · rw [recordBeforeStatus_of_noLead h]
    rfl
  · rw [recordBeforeStatus_of_lead h, leadRecord_eq]
    rfl

theorem vdecStatus_userCode (w : VbiWords) (r : VbiRec) : (vdecStatus w r).userCode = r.userCode := by
  rw [vdecStatus_frame]

/-- Settles O43: step 9 runs exactly in lead-in or lead-out, on a record without a user code. -/
theorem vdecUserCode : Obligations.VdecUserCode := by
  intro s hfault
  have hbefore := (vdecStatus_userCode s.vw _).trans (recordBeforeStatus_userCode s.vw)
  refine ⟨vdecRecord s.vw, exec_vdec_of_noFault hfault, fun hlead => ?_, fun hlead => ?_⟩
  · rw [vdecRecord_eq, if_pos hlead, hbefore]
  · rw [vdecRecord_eq, if_neg hlead]
    refine (vdecUsercode_userCode s.vw hbefore).trans ?_
    cases (Spec.usercode s.vw.w116).or (Spec.usercode s.vw.w216) <;> rfl

/-! ### The decision state and the ranges (44 R221, R231; 10_state.md R41) -/

/-- The sound modes of a programme status are at most `futureUse`, 11 (44 R227). -/
theorem statusSound_le (x3 x4 : BitVec 4) :
    (statusSound x3 x4).toNat % 16 ≤ 11 ∧ (statusSound x3 x4).toNat / 16 ≤ 11 := by
  have hmode : ∀ a : BitVec 4, (audioTable a).2.2.toNat ≤ 11 := by decide
  have hmodeAm2 : ∀ b : BitVec 3, (audioTableAm2 b).toNat ≤ 11 := by decide
  have := hmode (audioIndex x3 x4)
  have := hmodeAm2 (audioIndexAm2 x4)
  rw [statusSound_toNat]
  omega

theorem vdecRecord_sound_le (w : VbiWords) :
    (vdecRecord w).sound.toNat % 16 ≤ 11 ∧ (vdecRecord w).sound.toNat / 16 ≤ 11 := by
  rw [vdecRecord_sound_eq]
  cases h : firstStatus w with
  | none =>
    rw [vdecStatus_of_none h, (recordBeforeStatus_defaults w).2]
    decide
  | some found =>
    rw [vdecStatus_of_some h]
    exact statusSound_le _ _

theorem vdecRecord_inLead_iff {w : VbiWords} : Spec.inLead (vdecRecord w) ↔ ¬Spec.noLead w := by
  rw [Spec.inLead, vdecRecord_leadIn_iff, vdecRecord_leadOut_iff, not_and_or, not_not, not_not]

theorem decisionState_of_lead {w : VbiWords} (h : ¬Spec.noLead w) : decisionState w = .leadIO := by
  rw [Spec.noLead, not_and_or, not_not, not_not] at h
  rw [decisionState, if_pos]
  rw [Bool.or_eq_true, lines1718Hold_iff, lines1718Hold_iff]
  exact h

/-- Outside lead-in and lead-out the decision sequence ends in the state of the disc type found (44 R217, R221). -/
theorem decisionState_of_noLead {w : VbiWords} (h : Spec.noLead w) :
    decisionState w =
      if foundPicno w ≠ none then .cav
      else if foundClock w ≠ none ∨ w.w216 = clvmarkWord then .clv else .unknown := by
  have hlead : ¬(w.lines1718Hold leadinWord || w.lines1718Hold leadoutWord) = true := by
    rw [Bool.or_eq_true, lines1718Hold_iff, lines1718Hold_iff, not_or]
    exact h
  rw [decisionState, if_neg hlead, firstValid_pair, firstValid_pair, ← spec_picno_eq, ← spec_picno_eq,
    ← spec_timecode_eq, ← spec_timecode_eq]
  refine ite_congr (propext Option.isSome_iff_ne_none) (fun _ => rfl) fun hpicno => ?_
  have hclock : foundClock w = (Spec.timecode w.w117).or (Spec.timecode w.w118) := if_pos (not_not.mp hpicno)
  simp only [hclock, Bool.or_eq_true, Option.isSome_iff_ne_none, beq_iff_eq]

section Decision

variable {w : VbiWords}

theorem foundType_eq_cav_iff : foundType w = typeCav ↔ foundPicno w ≠ none := by
  rw [foundType]
  split
  · simp [*]
  · split <;> simp [*, typeCav, typeClv, typeUnknown]

theorem foundType_eq_clv_iff :
    foundType w = typeClv ↔ foundPicno w = none ∧ (foundClock w ≠ none ∨ w.w216 = clvmarkWord) := by
  rw [foundType]
  split
  · simp [*, typeCav, typeClv]
  · split <;> simp_all [typeClv, typeUnknown]

/-- The reserved type 3 is never found (10 R41). -/
theorem foundType_ne_three : foundType w ≠ 3#2 := by
  rw [foundType]
  split
  · decide
  · split <;> decide

/-- A time code is found without a picture number alone (44 R216). -/
theorem foundPicno_eq_none_of_clock (h : foundClock w ≠ none) : foundPicno w = none := by
  by_contra hpicno
  exact h (if_neg hpicno)

theorem decisionState_eq_cav_iff (h : Spec.noLead w) : decisionState w = .cav ↔ foundType w = typeCav := by
  rw [foundType_eq_cav_iff, decisionState_of_noLead h]
  split
  · simp [*]
  · split <;> simp [*]

theorem decisionState_eq_clv_iff (h : Spec.noLead w) : decisionState w = .clv ↔ foundType w = typeClv := by
  rw [foundType_eq_clv_iff, decisionState_of_noLead h]
  split
  · simp [*]
  · split <;> simp_all

theorem decisionState_eq_leadIO_iff : decisionState w = .leadIO ↔ ¬Spec.noLead w := by
  refine ⟨fun he h => ?_, decisionState_of_lead⟩
  rw [decisionState_of_noLead h] at he
  split at he
  · cases he
  · split at he <;> cases he

end Decision

/-- Settles O44: in lead-in or lead-out the record holds no number; outside it holds what the steps 2 to 7 find, each
number in the range of its format. -/
theorem vdecDecisionAndRanges : Obligations.VdecDecisionAndRanges := by
  intro s hfault
  have hleadIO : Spec.inLead (vdecRecord s.vw) ↔ decisionState s.vw = .leadIO :=
    vdecRecord_inLead_iff.trans decisionState_eq_leadIO_iff.symm
  refine ⟨vdecRecord s.vw, exec_vdec_of_noFault hfault, hleadIO, ?_⟩
  have hsound := vdecRecord_sound_le s.vw
  by_cases hlead : Spec.noLead s.vw
  case pos =>
    have hstop := vdecRecord_picStop_iff hlead
    rw [vdecRecord_frame, recordBeforeStatus_of_noLead hlead] at hsound hstop ⊢
    refine ⟨(decisionState_eq_cav_iff hlead).symm, (decisionState_eq_clv_iff hlead).symm,
      foundType_eq_cav_iff.trans (not_congr number_picno_eq_absent_iff).symm,
      fun hclv => number_picno_eq_absent_iff.mpr (foundType_eq_clv_iff.mp hclv).1,
      fun hhour => ?clock,
      number_hour_eq_absent_iff.trans number_minute_eq_absent_iff.symm,
      number_second_eq_absent_iff.trans number_picture_eq_absent_iff.symm,
      fun _ hmark hpicStop => (hstop.mp hpicStop).resolve_left fun h => ?marker,
      foundType_ne_three,
      number_absent_or_le foundPicno_le (by decide), number_absent_or_le foundChapter_le (by decide),
      number_absent_or_le foundHour_le (by decide), number_absent_or_le foundMinute_le (by decide),
      number_absent_or_le foundSecond_fst_le (by decide), number_absent_or_le foundSecond_snd_le (by decide),
      hsound⟩
    case clock =>
      have hclock : foundClock s.vw ≠ none := fun h => hhour (number_hour_eq_absent_iff.mpr h)
      exact foundType_eq_clv_iff.mpr ⟨foundPicno_eq_none_of_clock hclock, .inl hclock⟩
    case marker => exact absurd (hmark.symm.trans h) (by decide)
  case neg =>
    obtain ⟨htype, hpicno, hchapter, hhour, hminute, hsecond, hpicture, hstop⟩ := vdecRecord_of_lead hlead
    rw [htype, hpicno, hchapter, hhour, hminute, hsecond, hpicture, hstop, decisionState_of_lead hlead]
    simp [hsound]

end Sys2Proof.Proofs
end

section
/-! PROOFS. The sentinels as instructions, and a line code as an instruction against the `VDEC` that reads it alone
(44_vbi_decode.md R211 to R229; log 3). -/

namespace Sys2Proof.Proofs

open Sys2Proof.Machine

/-! ### The sentinels (44 R213, R217, R219) -/

/-- With the marker the disc is CAV with a picture number and CLV without one (44 R217). -/
theorem settleType_marker (r : VbiRec) :
    r.settleType true = { r with discType := if r.picNo = absent then typeClv else typeCav } := by
  rw [VbiRec.settleType, if_pos (Or.inr rfl : r.clvHr ≠ absent ∨ true = true), ite_not]

/-- Settles O45: the flag operations at bits 0, 1 and 2, and the type with the marker. -/
theorem sentinelLineCodes : Obligations.SentinelLineCodes := fun s hfault =>
  ⟨recordStep_of_noFault hfault _, recordStep_of_noFault hfault _,
    fun hlead => ⟨recordStep_unlessLead_of_inLead hfault hlead _, recordStep_unlessLead_of_inLead hfault hlead _⟩,
    fun hlead => ⟨recordStep_unlessLead_of_not_inLead hfault hlead _,
      (recordStep_unlessLead_of_not_inLead hfault hlead _).trans (by rw [settleType_marker]; rfl)⟩⟩

/-! ### `VDEC` of few words (44 R211) -/

@[simp] theorem number_none : Spec.number none = absent := rfl

@[simp] theorem spec_picno_zero : Spec.picno 0#24 = none := rfl

@[simp] theorem spec_timecode_zero : Spec.timecode 0#24 = none := rfl

@[simp] theorem spec_chapter_zero : Spec.chapter 0#24 = none := rfl

@[simp] theorem spec_clvsec_zero : Spec.clvsec 0#24 = none := rfl

theorem not_isStatus_zero : ¬Spec.isStatus 0#24 := by decide

@[simp] theorem zero_ne_clvmarkWord : 0#24 ≠ clvmarkWord := by decide

@[simp] theorem zero_ne_stopWord : 0#24 ≠ stopWord := by decide

/-- Without a sentinel and a status word the record is that of the steps 2 to 7. -/
theorem vdecRecord_of_numeric {w : VbiWords} (hlead : Spec.noLead w) (h1 : ¬Spec.isStatus w.w116)
    (h2 : ¬Spec.isStatus w.w216) : vdecRecord w = numericRecord w := by
  rw [vdecRecord_eq, if_pos hlead, recordBeforeStatus_of_noLead hlead, vdecStatus_of_none (firstStatus_eq_none h1 h2)]

theorem noLead_line116 (c : LineWord) : Spec.noLead ⟨c, 0#24, 0#24, 0#24, 0#24, 0#24⟩ := by
  simp [Spec.noLead]

theorem noLead_line117 {c : LineWord} (hin : c ≠ leadinWord) (hout : c ≠ leadoutWord) :
    Spec.noLead ⟨0#24, c, 0#24, 0#24, 0#24, 0#24⟩ := by
  simpa [Spec.noLead] using ⟨hin.symm, hout.symm⟩

theorem noLead_line218 {c : LineWord} (hin : c ≠ leadinWord) (hout : c ≠ leadoutWord) :
    Spec.noLead ⟨0#24, 0#24, 0#24, 0#24, 0#24, c⟩ := by
  simpa [Spec.noLead] using ⟨hin.symm, hout.symm⟩

/-- The record of a word alone on line 17 of field 1 that is no time code. -/
theorem numericRecord_picno {c : LineWord} (h : Spec.timecode c = none) :
    numericRecord ⟨0#24, c, 0#24, 0#24, 0#24, 0#24⟩ =
      { VbiRec.default with
        discType := if Spec.picno c = none then typeUnknown else typeCav
        picNo := Spec.number (Spec.picno c) } := by
  simp [numericRecord, VbiRec.default, foundType, foundPicno, foundClock, foundChapter, foundSecond, h]

/-- The record of a word alone on line 17 of field 1 that is no picture number. -/
theorem numericRecord_timecode {c : LineWord} (h : Spec.picno c = none) :
    numericRecord ⟨0#24, c, 0#24, 0#24, 0#24, 0#24⟩ =
      { VbiRec.default with
        discType := if Spec.timecode c = none then typeUnknown else typeClv
        clvHr := Spec.number ((Spec.timecode c).map Prod.fst)
        clvMin := Spec.number ((Spec.timecode c).map Prod.snd) } := by
  simp [numericRecord, VbiRec.default, foundType, foundPicno, foundClock, foundChapter, foundSecond, h]

/-- The record of a word alone on line 18 of field 2. -/
theorem numericRecord_chapter (c : LineWord) :
    numericRecord ⟨0#24, 0#24, 0#24, 0#24, 0#24, c⟩ =
      { VbiRec.default with chNo := Spec.number (Spec.chapter c) } := by
  simp [numericRecord, VbiRec.default, foundType, foundPicno, foundClock, foundChapter, foundSecond]

/-- The record of a word alone on line 16 of field 1. -/
theorem numericRecord_clvsec (c : LineWord) :
    numericRecord ⟨c, 0#24, 0#24, 0#24, 0#24, 0#24⟩ =
      { VbiRec.default with
        clvSec := Spec.number ((Spec.clvsec c).map Prod.fst)
        clvPicNo := Spec.number ((Spec.clvsec c).map Prod.snd) } := by
  simp [numericRecord, VbiRec.default, foundType, foundPicno, foundClock, foundChapter, foundSecond]

theorem numericRecord_of_not_clvsec {c : LineWord} (h : Spec.clvsec c = none) :
    numericRecord ⟨c, 0#24, 0#24, 0#24, 0#24, 0#24⟩ = VbiRec.default := by
  rw [numericRecord_clvsec, h]
  rfl

/-! ### A line code alone (44 R211 to R220, R225, R229; log 3) -/

theorem vdecRecord_line116 {c : LineWord} (h : ¬Spec.isStatus c) :
    vdecRecord ⟨c, 0#24, 0#24, 0#24, 0#24, 0#24⟩ = numericRecord ⟨c, 0#24, 0#24, 0#24, 0#24, 0#24⟩ :=
  vdecRecord_of_numeric (noLead_line116 c) h not_isStatus_zero

/-- A word of leading nibble `F` is no sentinel (30 R92). -/
theorem noLead_line117_of_nibble0 (n1 n2 n3 n4 n5 : BitVec 4) :
    Spec.noLead ⟨0#24, lineOf 15#4 n1 n2 n3 n4 n5, 0#24, 0#24, 0#24, 0#24⟩ := by
  have hne {c : LineWord} (h : 15#4 ≠ c.extractLsb' 20 4) : lineOf 15#4 n1 n2 n3 n4 n5 ≠ c := fun he =>
    h (he ▸ (lineOf_nibble0 15#4 n1 n2 n3 n4 n5).symm)
  exact noLead_line117 (hne (by decide)) (hne (by decide))

/-- A word of last nibble `D` is no sentinel (30 R92). -/
theorem noLead_line218_of_nibble5 (n0 n1 n2 n3 n4 : BitVec 4) :
    Spec.noLead ⟨0#24, 0#24, 0#24, 0#24, 0#24, lineOf n0 n1 n2 n3 n4 13#4⟩ := by
  have hne {c : LineWord} (h : 13#4 ≠ c.extractLsb' 0 4) : lineOf n0 n1 n2 n3 n4 13#4 ≠ c := fun he =>
    h (he ▸ (lineOf_nibble5 n0 n1 n2 n3 n4 13#4).symm)
  exact noLead_line218 (hne (by decide)) (hne (by decide))

theorem vdecRecord_alone_picno {s19 : BitVec 1} {d4 : BitVec 3} {d3 d2 : BitVec 4} (d1 d0 : BitVec 4)
    (h : Instr.wfPicno d3 d2 = true) :
    vdecRecord ⟨0#24, lineOf 15#4 (s19 ++ d4) d3 d2 d1 d0, 0#24, 0#24, 0#24, 0#24⟩ =
      VbiRec.default.applyFound (picnoValue d4 d3 d2 d1 d0) fun r n => (r.withPicno n).settleType false := by
  have hpicno : Spec.picno (lineOf 15#4 (s19 ++ d4) d3 d2 d1 d0) = picnoValue d4 d3 d2 d1 d0 := by
    rw [spec_picno_eq, picnoOfWord_lineOf, if_pos rfl, bit_append_low]
  have htimecode : Spec.timecode (lineOf 15#4 (s19 ++ d4) d3 d2 d1 d0) = none := by
    rw [spec_timecode_eq, timecodeOfWord_lineOf, if_neg fun ⟨_, hfiller⟩ => wfPicno_iff.mp h hfiller]
  have hbound : ∀ n ∈ picnoValue d4 d3 d2 d1 d0, n ≤ 79999 := hpicno ▸ picno_le
  rw [vdecRecord_of_numeric (noLead_line117_of_nibble0 ..) not_isStatus_zero not_isStatus_zero,
    numericRecord_picno htimecode, hpicno]
  cases hvalue : picnoValue d4 d3 d2 d1 d0 with
  | none => rfl
  | some n =>
    have hn : n ≤ 79999 := hbound n hvalue
    exact (settleType_withPicno VbiRec.default (by omega) false).symm

theorem vdecRecord_alone_timecode (hr mt mu : BitVec 4) :
    vdecRecord ⟨0#24, lineOf 15#4 hr 13#4 13#4 mt mu, 0#24, 0#24, 0#24, 0#24⟩ =
      VbiRec.default.applyFound (timecodeValue hr mt mu) fun r t => (r.withTimecode t).settleType false := by
  have htimecode : Spec.timecode (lineOf 15#4 hr 13#4 13#4 mt mu) = timecodeValue hr mt mu := by
    rw [spec_timecode_eq, timecodeOfWord_lineOf, if_pos ⟨rfl, rfl, rfl⟩]
  have hpicno : Spec.picno (lineOf 15#4 hr 13#4 13#4 mt mu) = none := by
    rw [spec_picno_eq, picnoOfWord_lineOf, if_pos rfl, picnoValue_eq]
    exact if_neg fun ⟨hfiller, _⟩ => absurd hfiller (by decide)
  have hbound : ∀ t ∈ timecodeValue hr mt mu, t.1 ≤ 9 ∧ t.2 ≤ 59 := htimecode ▸ timecode_le
  rw [vdecRecord_of_numeric (noLead_line117_of_nibble0 ..) not_isStatus_zero not_isStatus_zero,
    numericRecord_timecode hpicno, htimecode]
  cases hvalue : timecodeValue hr mt mu with
  | none => rfl
  | some t =>
    obtain ⟨hhour, -⟩ := hbound t hvalue
    exact (settleType_withTimecode (r := VbiRec.default) rfl (by omega) false).symm

theorem vdecRecord_alone_chapter (c19 : BitVec 1) (ct : BitVec 3) (cu : BitVec 4) :
    vdecRecord ⟨0#24, 0#24, 0#24, 0#24, 0#24, lineOf 8#4 (c19 ++ ct) cu 13#4 13#4 13#4⟩ =
      VbiRec.default.applyFound (chapterValue ct cu) VbiRec.withChapter := by
  rw [vdecRecord_of_numeric (noLead_line218_of_nibble5 ..) not_isStatus_zero not_isStatus_zero, numericRecord_chapter,
    spec_chapter_eq, chapterOfWord_lineOf, if_pos ⟨rfl, rfl, rfl, rfl⟩, bit_append_low]
  cases chapterValue ct cu <;> rfl

/-- A programme status word has third nibble `C` or `A` (30 R97). -/
theorem not_isStatus_of_nibble2 {n0 n1 n2 n3 n4 n5 : BitVec 4} (hcxOn : n2 ≠ 12#4) (hcxOff : n2 ≠ 10#4) :
    ¬Spec.isStatus (lineOf n0 n1 n2 n3 n4 n5) := by
  rw [Spec.isStatus, spec_statusCxOn_iff, spec_statusCxOff_iff]
  rintro (⟨-, -, h2⟩ | ⟨-, -, h2⟩)
  · exact hcxOn h2
  · exact hcxOff h2

theorem vdecRecord_alone_clvsec (x1 x3 x4 x5 : BitVec 4) :
    vdecRecord ⟨lineOf 8#4 x1 14#4 x3 x4 x5, 0#24, 0#24, 0#24, 0#24, 0#24⟩ =
      VbiRec.default.applyFound (clvsecValue x1 x3 x4 x5) VbiRec.withClvsec := by
  rw [vdecRecord_line116 (not_isStatus_of_nibble2 (by decide) (by decide)), numericRecord_clvsec, spec_clvsec_eq,
    clvsecOfWord_lineOf, if_pos ⟨rfl, rfl⟩]
  cases clvsecValue x1 x3 x4 x5 <;> rfl

/-- A word of line 16 whose third nibble is not `E` is no `CLVSEC` (30 R96). -/
theorem spec_clvsec_eq_none {n0 n1 n2 n3 n4 n5 : BitVec 4} (h : n2 ≠ 14#4) :
    Spec.clvsec (lineOf n0 n1 n2 n3 n4 n5) = none := by
  rw [spec_clvsec_eq, clvsecOfWord_lineOf, if_neg fun ⟨_, h2⟩ => h h2]

theorem vdecRecord_alone_status {n1 n2 x3 x4 x5 : BitVec 4} {cxOn : Bool} (h2 : n2 ≠ 14#4)
    (h : statusOfWord (lineOf 8#4 n1 n2 x3 x4 x5) = some cxOn) :
    vdecRecord ⟨lineOf 8#4 n1 n2 x3 x4 x5, 0#24, 0#24, 0#24, 0#24, 0#24⟩ =
      VbiRec.default.withStatus cxOn x3 x4 x5 := by
  have hfirst : firstStatus ⟨lineOf 8#4 n1 n2 x3 x4 x5, 0#24, 0#24, 0#24, 0#24, 0#24⟩ =
      some (lineOf 8#4 n1 n2 x3 x4 x5, cxOn) := by
    rw [firstStatus_eq, h]
    rfl
  rw [vdecRecord_eq, if_pos (noLead_line116 _), recordBeforeStatus_of_noLead (noLead_line116 _),
    numericRecord_of_not_clvsec (spec_clvsec_eq_none h2), vdecStatus_of_some hfirst, lineOf_nibble3, lineOf_nibble4,
    lineOf_nibble5, withStatus_eq]

/-- Outside lead-in and lead-out a user code is not looked for (44 R229). -/
theorem vdecRecord_alone_usercode (x1 x3 x4 x5 : BitVec 4) :
    vdecRecord ⟨lineOf 8#4 x1 13#4 x3 x4 x5, 0#24, 0#24, 0#24, 0#24, 0#24⟩ = VbiRec.default := by
  rw [vdecRecord_line116 (not_isStatus_of_nibble2 (by decide) (by decide)),
    numericRecord_of_not_clvsec (spec_clvsec_eq_none (by decide))]

/-! ### `VDEC` against the line code (log 3, 15) -/

/-- `VDEC` and a line code whose records agree answer alike, under fault too (40 R111). -/
theorem exec_vdec_eq_recordStep {s : State} {f : VbiRec → VbiRec} (h : vdecRecord s.vw = f s.vr) :
    exec .vdec s = recordStep s f := by
  change execVdec s = _
  simp only [execVdec, recordStep, unlessFault, h]

/-- What `VDEC` finds in a word alone is what the line code does to the default record, format by format. -/
theorem exec_vdec_alone {s : State} {i : Instr} {c : LineWord} (h : decode (.lineCode c) = .ok i)
    (hvr : s.vr = VbiRec.default) (hvw : s.vw = Spec.alone i c) : exec .vdec s = exec i s := by
  have hagree {f : VbiRec → VbiRec} (hrecord : vdecRecord (Spec.alone i c) = f VbiRec.default) :
      exec .vdec s = recordStep s f := exec_vdec_eq_recordStep (by rw [hvw, hvr, hrecord])
  obtain ⟨hwf, hencode⟩ := decode_eq_ok_iff.mp h
  cases i with
  | nop | cfg | decf | vdec | venc | srst => cases hencode
  | leadin =>
    cases hencode
    exact hagree (f := fun r => r.markIf 0 true) rfl
  | leadout =>
    cases hencode
    exact hagree (f := fun r => r.markIf 1 true) rfl
  | stop =>
    cases hencode
    exact hagree (f := fun r => r.unlessLead fun r => r.markIf 2 true) rfl
  | clvmark =>
    cases hencode
    exact hagree (f := fun r => r.unlessLead fun r => r.settleType true) rfl
  | picno s19 d4 d3 d2 d1 d0 =>
    cases (encode_picno ..).symm.trans hencode
    change exec .vdec s = execPicno s19 d4 d3 d2 d1 d0 s
    rw [execPicno]
    exact hagree (vdecRecord_alone_picno d1 d0 hwf)
  | timecode hr mt mu =>
    cases (encode_timecode ..).symm.trans hencode
    change exec .vdec s = execTimecode hr mt mu s
    rw [execTimecode]
    exact hagree (vdecRecord_alone_timecode hr mt mu)
  | chapter c19 ct cu =>
    cases (encode_chapter ..).symm.trans hencode
    change exec .vdec s = execChapter c19 ct cu s
    rw [execChapter]
    exact hagree (vdecRecord_alone_chapter c19 ct cu)
  | clvsec x1 x3 x4 x5 =>
    cases (encode_clvsec ..).symm.trans hencode
    change exec .vdec s = execClvsec x1 x3 x4 x5 s
    rw [execClvsec]
    exact hagree (vdecRecord_alone_clvsec x1 x3 x4 x5)
  | statusCxOn x3 x4 x5 =>
    cases (encode_statusCxOn ..).symm.trans hencode
    change exec .vdec s = execStatusCxOn x3 x4 x5 s
    rw [execStatusCxOn]
    exact hagree (vdecRecord_alone_status (by decide) (statusOfWord_lineOf ..))
  | statusCxOff x3 x4 x5 =>
    cases (encode_statusCxOff ..).symm.trans hencode
    change exec .vdec s = execStatusCxOff x3 x4 x5 s
    rw [execStatusCxOff]
    exact hagree (vdecRecord_alone_status (by decide) (statusOfWord_lineOf ..))
  | usercode x1 x345 =>
    obtain ⟨x3, x4, x5, rfl⟩ := exists_eq_three_nibbles x345
    cases (encode_usercode ..).symm.trans hencode
    change exec .vdec s = execUsercode x1 (x3 ++ x4 ++ x5) s
    rw [execUsercode]
    exact hagree (vdecRecord_alone_usercode x1 x3 x4 x5)

/-- A valid user code beside a lead-in sentinel (44 R229). -/
theorem vdecRecord_leadin_usercode {c : LineWord} {uc : BitVec 16} (h : usercodeOfWord c = some uc)
    (hstatus : ¬Spec.isStatus c) :
    vdecRecord ⟨c, 0x88FFFF#24, 0#24, 0#24, 0#24, 0#24⟩ =
      { VbiRec.default with flags := 1#13 }.withUsercode uc := by
  have hlead : ¬Spec.noLead ⟨c, 0x88FFFF#24, 0#24, 0#24, 0#24, 0#24⟩ := fun ⟨hin, _⟩ => hin (.inl rfl)
  have hbefore : recordBeforeStatus ⟨c, 0x88FFFF#24, 0#24, 0#24, 0#24, 0#24⟩ =
      { VbiRec.default with flags := 1#13 } := recordBeforeStatus_of_lead hlead
  rw [vdecRecord_eq, if_neg hlead, vdecStatus_of_none (firstStatus_eq_none hstatus not_isStatus_zero), hbefore,
    vdecUsercode, firstValid_pair, h]
  rfl

theorem exec_vdec_leadin_usercode {s : State} {i : Instr} {c : LineWord} (h : decode (.lineCode c) = .ok i)
    (hvr : s.vr = { VbiRec.default with flags := 1#13 }) (hvw : s.vw = ⟨c, 0x88FFFF#24, 0#24, 0#24, 0#24, 0#24⟩)
    (hvalid : (Spec.usercode c).isSome = true) : exec .vdec s = exec i s := by
  obtain rfl : .usercode (c.extractLsb' 16 4) (c.extractLsb' 0 12) = i :=
    Except.ok.inj ((decodeLine_of_usercode hvalid).symm.trans h)
  have hstatus : ¬Spec.isStatus c := by
    rw [Spec.usercode, Option.isSome_ite] at hvalid
    omega
  rw [spec_usercode_eq, Option.isSome_map] at hvalid
  obtain ⟨uc, huc⟩ := Option.isSome_iff_exists.mp hvalid
  have hvalue : usercodeValue (c.extractLsb' 16 4) (c.extractLsb' 0 12) = some uc :=
    (Option.ite_none_right_eq_some.mp huc).2
  refine exec_vdec_eq_recordStep ?_
  rw [hvw, hvr, vdecRecord_leadin_usercode huc hstatus, hvalue]
  rfl

/-- Settles O49: the record of `VDEC` is that of the line code, format by format. -/
theorem lineCodeAgreesWithVdec : Obligations.LineCodeAgreesWithVdec := by
  refine ⟨fun s t u i c _ hdecode => ⟨fun hvr hvw ht hu => ?_, fun hvr hvw hvalid ht hu => ?_⟩,
    fun s w i hvr hdecode => ?_⟩
  · exact Host.Outcome.next.inj (hu.symm.trans ((exec_vdec_alone hdecode hvr hvw).trans ht))
  · exact Host.Outcome.next.inj (hu.symm.trans ((exec_vdec_leadin_usercode hdecode hvr hvw hvalid).trans ht))
  · rw [step_withFetchWord_lineCode s hdecode]
    exact exec_vdec_alone (except_toOption_eq_some_iff.mp hdecode) hvr rfl

end Sys2Proof.Proofs
end

section
/-! PROOFS. The words that `VENC` writes and what they carry (45_vbi_encode.md R244 to R250): each format's word as a
number, its reading by `VDEC`, and why no numeric word is a sentinel, a programme status or a user code. -/

namespace Sys2Proof.Proofs

open Sys2Proof.Machine

/-! ### The encoder's operators, nibble by nibble (30_encoding.md R91) -/

theorem lineOf_or (a0 a1 a2 a3 a4 a5 b0 b1 b2 b3 b4 b5 : BitVec 4) :
    lineOf a0 a1 a2 a3 a4 a5 ||| lineOf b0 b1 b2 b3 b4 b5 =
      lineOf (a0 ||| b0) (a1 ||| b1) (a2 ||| b2) (a3 ||| b3) (a4 ||| b4) (a5 ||| b5) :=
  lineWord_ext_iff.mpr (by simp only [BitVec.extractLsb'_or, lineOf_nibble0, lineOf_nibble1, lineOf_nibble2,
    lineOf_nibble3, lineOf_nibble4, lineOf_nibble5, and_self])

theorem bcdDigit_toNat (v k : Nat) : (bcdDigit v k).toNat = v / 10 ^ k % 10 := by
  rw [bcdDigit, BitVec.toNat_ofNat]
  omega

/-- The digits of `BCD2` in the last two nibbles of a line code. -/
theorem bcd2_setWidth (v : Nat) : (bcd2 v).setWidth 24 = lineOf 0#4 0#4 0#4 0#4 (bcdDigit v 1) (bcdDigit v 0) := by
  rw [bcd2]
  generalize bcdDigit v 1 = d1, bcdDigit v 0 = d0
  exact BitVec.eq_of_toNat_eq (by
    rw [BitVec.toNat_setWidth_of_le (by decide), lineOf_toNat, toNat_append_eq_add, BitVec.toNat_ofNat]
    omega)

/-- The digits of `BCD5` in the last five nibbles of a line code. -/
theorem bcd5_setWidth (v : Nat) :
    (bcd5 v).setWidth 24 =
      lineOf 0#4 (bcdDigit v 4) (bcdDigit v 3) (bcdDigit v 2) (bcdDigit v 1) (bcdDigit v 0) := by
  rw [bcd5]
  generalize bcdDigit v 4 = d4, bcdDigit v 3 = d3, bcdDigit v 2 = d2, bcdDigit v 1 = d1, bcdDigit v 0 = d0
  exact BitVec.eq_of_toNat_eq (by
    rw [BitVec.toNat_setWidth_of_le (by decide), lineOf_toNat]
    simp only [toNat_append_eq_add, BitVec.toNat_ofNat]
    omega)

/-- The top digit of `PICNO` and `CHAPTER` is below bit 19 (30 R93, R95). -/
theorem bcdDigit_eq_append {v k : Nat} (h : v / 10 ^ k ≤ 7) :
    bcdDigit v k = 0#1 ++ BitVec.ofNat 3 (v / 10 ^ k) :=
  BitVec.eq_of_toNat_eq (by
    rw [bcdDigit_toNat, toNat_append_eq_add, BitVec.toNat_ofNat, BitVec.toNat_ofNat]
    generalize v / 10 ^ k = d at h ⊢
    omega)

/-- The shift of `CHAPTER` (30 R95). -/
theorem lineOf_shiftLeft_twelve (a b : BitVec 4) :
    lineOf 0#4 0#4 0#4 0#4 a b <<< 12 = lineOf 0#4 a b 0#4 0#4 0#4 :=
  BitVec.eq_of_toNat_eq (by
    simp only [BitVec.toNat_shiftLeft, Nat.shiftLeft_eq, lineOf_toNat, BitVec.toNat_ofNat, Nat.reducePow]
    omega)

theorem ofNat_shiftLeft_sixteen {n : Nat} (h : n < 16) :
    BitVec.ofNat 24 n <<< 16 = lineOf 0#4 (BitVec.ofNat 4 n) 0#4 0#4 0#4 0#4 :=
  BitVec.eq_of_toNat_eq (by
    simp only [BitVec.toNat_shiftLeft, Nat.shiftLeft_eq, lineOf_toNat, BitVec.toNat_ofNat, Nat.reducePow]
    omega)

theorem ofNat_shiftLeft_eight (n : Nat) :
    BitVec.ofNat 24 (n % 10) <<< 8 = lineOf 0#4 0#4 0#4 (bcdDigit n 0) 0#4 0#4 :=
  BitVec.eq_of_toNat_eq (by
    simp only [BitVec.toNat_shiftLeft, Nat.shiftLeft_eq, lineOf_toNat, BitVec.toNat_ofNat, Nat.reducePow,
      bcdDigit_toNat]
    omega)

/-! ### The words of the formats (45 R245, R247, R248) -/

/-- Bit 19 above the ten-thousands digit of a picture number, which is at most 7 (30 R93). -/
theorem or_eight_eq_append : ∀ d : BitVec 3, (0#1 ++ d) ||| 8#4 = 1#1 ++ d := by decide

theorem picnoWord_eq_lineOf {n : Nat} (h : n ≤ 79999) (legacyStop : Bool) :
    picnoWord n legacyStop =
      lineOf 15#4 (BitVec.ofBool legacyStop ++ BitVec.ofNat 3 (n / 10000)) (bcdDigit n 3) (bcdDigit n 2) (bcdDigit n 1)
        (bcdDigit n 0) := by
  have htop : bcdDigit n 4 = 0#1 ++ BitVec.ofNat 3 (n / 10000) := bcdDigit_eq_append (by omega)
  rw [picnoWord, bcd5_setWidth, htop, show 0xF00000#24 = lineOf 15#4 0#4 0#4 0#4 0#4 0#4 from rfl,
    show 0x080000#24 = lineOf 0#4 8#4 0#4 0#4 0#4 0#4 from rfl]
  cases legacyStop with
  | false => simp [lineOf_or]
  | true => simp [lineOf_or, or_eight_eq_append]

theorem chapterWord_eq_lineOf {n : Nat} (h : n ≤ 79) :
    chapterWord n = lineOf 8#4 (0#1 ++ BitVec.ofNat 3 (n / 10)) (bcdDigit n 0) 13#4 13#4 13#4 := by
  have htop : bcdDigit n 1 = 0#1 ++ BitVec.ofNat 3 (n / 10) := bcdDigit_eq_append (by omega)
  rw [chapterWord, bcd2_setWidth, lineOf_shiftLeft_twelve, htop,
    show 0x800DDD#24 = lineOf 8#4 0#4 0#4 13#4 13#4 13#4 from rfl, lineOf_or]
  simp only [BitVec.zero_or, BitVec.or_zero]

theorem timecodeWord_eq_lineOf {t : Nat × Nat} (h : t.1 ≤ 9) :
    timecodeWord t = lineOf 15#4 (BitVec.ofNat 4 t.1) 13#4 13#4 (bcdDigit t.2 1) (bcdDigit t.2 0) := by
  rw [timecodeWord, bcd2_setWidth, ofNat_shiftLeft_sixteen (by omega),
    show 0xF0DD00#24 = lineOf 15#4 0#4 13#4 13#4 0#4 0#4 from rfl, lineOf_or, lineOf_or]
  simp only [BitVec.zero_or, BitVec.or_zero]

theorem clvsecWord_eq_lineOf {t : Nat × Nat} (h : t.1 ≤ 59) :
    clvsecWord t =
      lineOf 8#4 (BitVec.ofNat 4 (10 + t.1 / 10)) 14#4 (bcdDigit t.1 0) (bcdDigit t.2 1) (bcdDigit t.2 0) := by
  rw [clvsecWord, bcd2_setWidth, ofNat_shiftLeft_sixteen (by omega), ofNat_shiftLeft_eight,
    show 0x80E000#24 = lineOf 8#4 0#4 14#4 0#4 0#4 0#4 from rfl, lineOf_or, lineOf_or, lineOf_or]
  simp only [BitVec.zero_or, BitVec.or_zero]

/-! ### Inside their ranges the words are those of the statements -/

/-- A line code is known by the sum of its nibbles. -/
theorem lineOf_eq_ofNat {n0 n1 n2 n3 n4 n5 : BitVec 4} {n : Nat}
    (h : 0x100000 * n0.toNat + 0x10000 * n1.toNat + 0x1000 * n2.toNat + 0x100 * n3.toNat + 0x10 * n4.toNat + n5.toNat =
      n) : lineOf n0 n1 n2 n3 n4 n5 = BitVec.ofNat 24 n := by
  rw [← h, ← lineOf_toNat, BitVec.ofNat_toNat, BitVec.setWidth_eq]

theorem picnoWord_eq_spec {n : Nat} (h : n ≤ 79999) (legacyStop : Bool) :
    picnoWord n legacyStop = Spec.picnoWord n legacyStop := by
  rw [picnoWord_eq_lineOf h, Spec.picnoWord]
  refine lineOf_eq_ofNat ?_
  simp only [toNat_append_eq_add, bcdDigit_toNat, BitVec.toNat_ofNat]
  cases legacyStop with
  | false => simp; omega
  | true => simp; omega

theorem chapterWord_eq_spec {n : Nat} (h : n ≤ 79) : chapterWord n = Spec.chapterWord n := by
  rw [chapterWord_eq_lineOf h, Spec.chapterWord]
  refine lineOf_eq_ofNat ?_
  simp only [toNat_append_eq_add, bcdDigit_toNat, BitVec.toNat_ofNat]
  omega

theorem timecodeWord_eq_spec {t : Nat × Nat} (h : t.1 ≤ 9 ∧ t.2 ≤ 59) : timecodeWord t = Spec.timecodeWord t.1 t.2 := by
  obtain ⟨hhour, hminute⟩ := h
  rw [timecodeWord_eq_lineOf hhour, Spec.timecodeWord]
  refine lineOf_eq_ofNat ?_
  simp only [bcdDigit_toNat, BitVec.toNat_ofNat]
  omega

theorem clvsecWord_eq_spec {t : Nat × Nat} (h : t.1 ≤ 59 ∧ t.2 ≤ 99) : clvsecWord t = Spec.clvsecWord t.1 t.2 := by
  obtain ⟨hsecond, hpicture⟩ := h
  rw [clvsecWord_eq_lineOf hsecond, Spec.clvsecWord]
  refine lineOf_eq_ofNat ?_
  simp only [bcdDigit_toNat, BitVec.toNat_ofNat]
  omega

/-! ### Each word is read back in its format (30 R93 to R96) -/

theorem bcdDigit_le_nine (v k : Nat) : (bcdDigit v k).toNat ≤ 9 := by
  rw [bcdDigit_toNat]
  omega

/-- Bit 19 is not examined (44_vbi_decode.md R215). -/
theorem spec_picno_picnoWord {n : Nat} (h : n ≤ 79999) (legacyStop : Bool) :
    Spec.picno (picnoWord n legacyStop) = some n := by
  rw [picnoWord_eq_lineOf h, spec_picno_eq, picnoOfWord_lineOf, if_pos rfl, bit_append_low]
  refine picnoValue_eq_some.mpr ⟨by simp only [bcdDigit_le_nine, and_self], ?_⟩
  simp only [bcdDigit_toNat, BitVec.toNat_ofNat]
  omega

theorem spec_chapter_chapterWord {n : Nat} (h : n ≤ 79) : Spec.chapter (chapterWord n) = some n := by
  rw [chapterWord_eq_lineOf h, spec_chapter_eq, chapterOfWord_lineOf, if_pos ⟨rfl, rfl, rfl, rfl⟩, bit_append_low]
  refine chapterValue_eq_some.mpr ⟨bcdDigit_le_nine _ _, ?_⟩
  simp only [bcdDigit_toNat, BitVec.toNat_ofNat]
  omega

theorem spec_timecode_timecodeWord {t : Nat × Nat} (h : t.1 ≤ 9 ∧ t.2 ≤ 59) :
    Spec.timecode (timecodeWord t) = some t := by
  obtain ⟨hhour, hminute⟩ := h
  rw [timecodeWord_eq_lineOf hhour, spec_timecode_eq, timecodeOfWord_lineOf, if_pos ⟨rfl, rfl, rfl⟩]
  refine timecodeValue_eq_some.mpr ?_
  simp only [bcdDigit_toNat, BitVec.toNat_ofNat, Prod.ext_iff]
  omega

theorem spec_clvsec_clvsecWord {t : Nat × Nat} (h : t.1 ≤ 59 ∧ t.2 ≤ 99) : Spec.clvsec (clvsecWord t) = some t := by
  obtain ⟨hsecond, hpicture⟩ := h
  rw [clvsecWord_eq_lineOf hsecond, spec_clvsec_eq, clvsecOfWord_lineOf, if_pos ⟨rfl, rfl⟩]
  refine clvsecValue_eq_some.mpr ?_
  simp only [bcdDigit_toNat, BitVec.toNat_ofNat, Prod.ext_iff]
  omega

/-- The filler of a `TIMECODE` word is no digit of a picture number (30 R94). -/
theorem spec_picno_timecodeWord {t : Nat × Nat} (h : t.1 ≤ 9) : Spec.picno (timecodeWord t) = none := by
  rw [timecodeWord_eq_lineOf h, spec_picno_eq, picnoOfWord_lineOf, if_pos rfl, picnoValue_eq]
  exact if_neg fun ⟨hfiller, _⟩ => absurd hfiller (by decide)

/-! ### What a numeric word is not (30 R92, R97, R98) -/

/-- A word that carries no number or is valid in one of the four numeric formats. -/
def IsNumeric (c : LineWord) : Prop :=
  c = 0#24 ∨ (Spec.picno c).isSome = true ∨ (Spec.timecode c).isSome = true ∨ (Spec.chapter c).isSome = true ∨
    (Spec.clvsec c).isSome = true

theorem IsNumeric.of_picno {c : LineWord} {n : Nat} (h : Spec.picno c = some n) : IsNumeric c :=
  .inr (.inl (Option.isSome_of_eq_some h))

theorem IsNumeric.of_timecode {c : LineWord} {t : Nat × Nat} (h : Spec.timecode c = some t) : IsNumeric c :=
  .inr (.inr (.inl (Option.isSome_of_eq_some h)))

theorem IsNumeric.of_chapter {c : LineWord} {n : Nat} (h : Spec.chapter c = some n) : IsNumeric c :=
  .inr (.inr (.inr (.inl (Option.isSome_of_eq_some h))))

theorem IsNumeric.of_clvsec {c : LineWord} {t : Nat × Nat} (h : Spec.clvsec c = some t) : IsNumeric c :=
  .inr (.inr (.inr (.inr (Option.isSome_of_eq_some h))))

/-- The word of a number that may be absent: 0 where it is (45 R242). -/
theorem isNumeric_elim {α : Type} {x : Option α} {word : α → LineWord} (h : ∀ a ∈ x, IsNumeric (word a)) :
    IsNumeric (x.elim 0#24 word) := by
  cases x with
  | none => exact .inl rfl
  | some a => exact h a rfl

/-- The leading nibble of a numeric word, and for `8` the nibbles that tell `CHAPTER` and `CLVSEC` from every other
row. -/
theorem IsNumeric.shape {c : LineWord} (h : IsNumeric c) :
    c.toNat = 0 ∨ c.toNat / 0x100000 = 0xF ∨
      (c.toNat / 0x100000 = 8 ∧ c.toNat / 0x1000 % 16 ≤ 9 ∧ c.toNat % 0x1000 = 0xDDD) ∨
      (c.toNat / 0x100000 = 8 ∧ c.toNat / 0x1000 % 16 = 14 ∧ 10 ≤ c.toNat / 0x10000 % 16) := by
  rcases h with rfl | h | h | h | h
  · exact .inl rfl
  · rw [Spec.picno, Option.isSome_ite] at h
    omega
  · rw [Spec.timecode, Option.isSome_ite] at h
    omega
  · rw [Spec.chapter, Option.isSome_ite] at h
    omega
  · rw [Spec.clvsec, Option.isSome_ite] at h
    omega

theorem IsNumeric.ne_sentinels {c : LineWord} (h : IsNumeric c) :
    c ≠ leadinWord ∧ c ≠ leadoutWord ∧ c ≠ stopWord := by
  have hshape := h.shape
  refine ⟨?_, ?_, ?_⟩ <;> (rintro rfl; revert hshape; decide)

theorem IsNumeric.not_isStatus {c : LineWord} (h : IsNumeric c) : ¬Spec.isStatus c := by
  have hshape := h.shape
  unfold Spec.isStatus
  omega

/-- A word that is neither a programme status word nor a user code word (30 R97, R98). -/
def NeitherStatusNorUsercode (c : LineWord) : Prop :=
  c &&& 0xFFF000#24 ≠ 0x8DC000#24 ∧ c &&& 0xFFF000#24 ≠ 0x8BA000#24 ∧ c &&& 0xF0F000#24 ≠ 0x80D000#24

theorem neitherStatusNorUsercode_iff {c : LineWord} :
    NeitherStatusNorUsercode c ↔
      ¬Spec.isStatus c ∧ ¬(c.toNat / 0x100000 = 8 ∧ c.toNat / 0x1000 % 16 = 13) := by
  obtain ⟨n0, n1, n2, n3, n4, n5, rfl⟩ := exists_eq_lineOf c
  simp only [Spec.isStatus, spec_statusCxOn_iff, spec_statusCxOff_iff, lineOf_digit0, lineOf_digit2]
  simp [NeitherStatusNorUsercode, lineOf_and_eq_iff, nibble_eq_iff, not_or, and_assoc]

theorem IsNumeric.neitherStatusNorUsercode {c : LineWord} (h : IsNumeric c) : NeitherStatusNorUsercode c := by
  have hshape := h.shape
  exact neitherStatusNorUsercode_iff.mpr ⟨h.not_isStatus, by omega⟩

end Sys2Proof.Proofs
end

section
/-! PROOFS. The six words `VENC` writes in closed form, from the numbers of the record that it takes
(45_vbi_encode.md R240 to R250). -/

namespace Sys2Proof.Proofs

open Sys2Proof.Machine

/-! ### The record as `VENC` reads it (45 R240, R241, R242) -/

section Record

variable (r : VbiRec)

/-- The reserved type 3 is neither CAV nor CLV. -/
theorem encType_eq_iff {t : BitVec 2} (ht : t = typeCav ∨ t = typeClv) : r.encType = t ↔ r.discType = t := by
  rw [VbiRec.encType]
  split
  · next h => rw [h]; rcases ht with rfl | rfl <;> decide
  · rfl

theorem encType_eq_cav_iff : r.encType = typeCav ↔ r.discType = 1#2 := encType_eq_iff r (.inl rfl)

theorem encType_eq_clv_iff : r.encType = typeClv ↔ r.discType = 2#2 := encType_eq_iff r (.inr rfl)

theorem encStop_iff : r.encStop = true ↔ r.discType = 1#2 ∧ r.flags.getLsbD 2 = true := by
  rw [VbiRec.encStop, Bool.and_eq_true, beq_iff_eq, encType_eq_cav_iff, VbiRec.picStop]

theorem encStop_of_clv (h : r.encType = typeClv) : r.encStop = false := by
  rw [VbiRec.encStop, h]
  rfl

/-- The picture number of step 2: of a CAV record, inside its range (45 R245). -/
def takenPicno : Option Nat := if r.encType = typeCav then encodable r.picNo 79999 else none

/-- The chapter number of step 4 (45 R247). -/
def takenChapter : Option Nat := encodable r.chNo 79

/-- The hour and minute of step 5: of a CLV record, both inside their ranges (45 R248). -/
def takenClock : Option (Nat × Nat) :=
  if r.encType = typeClv then bothEncodable r.clvHr 9 r.clvMin 59 else none

/-- The second and picture-in-second of step 5 (45 R248). -/
def takenSecond : Option (Nat × Nat) :=
  if r.encType = typeClv then bothEncodable r.clvSec 59 r.clvPicNo 99 else none

end Record

/-- A number that is not negative is the same read as signed and as unsigned. -/
theorem toInt_toNat_of_nonneg {v : BitVec 32} (h : 0 ≤ v.toInt) : v.toInt.toNat = v.toNat := by
  have hsigned := BitVec.toInt_eq_toNat_cond v
  split at hsigned <;> omega

theorem encodable_eq_ite (v : BitVec 32) (hi : Int) :
    encodable v hi = if Spec.inRange v hi then some v.toNat else none :=
  eq_ite_some fun n => by
    rw [encodable_eq_some]
    refine and_congr_right fun ⟨hpos, _⟩ => ?_
    rw [toInt_toNat_of_nonneg hpos]

theorem bothEncodable_eq_some {a b : BitVec 32} {hiA hiB : Int} {t : Nat × Nat} :
    bothEncodable a hiA b hiB = some t ↔ encodable a hiA = some t.1 ∧ encodable b hiB = some t.2 := by
  rw [bothEncodable]
  cases encodable a hiA <;> cases encodable b hiB <;> simp [Prod.ext_iff]

theorem bothEncodable_eq_ite (a : BitVec 32) (hiA : Int) (b : BitVec 32) (hiB : Int) :
    bothEncodable a hiA b hiB =
      if Spec.inRange a hiA ∧ Spec.inRange b hiB then some (a.toNat, b.toNat) else none :=
  eq_ite_some fun t => by
    rw [bothEncodable_eq_some, encodable_eq_ite, encodable_eq_ite, Option.ite_none_right_eq_some,
      Option.ite_none_right_eq_some, Option.some_inj, Option.some_inj, and_and_and_comm, Prod.ext_iff,
      eq_comm (a := a.toNat), eq_comm (a := b.toNat)]

theorem encodable_le {v : BitVec 32} {hi : Nat} : ∀ n ∈ encodable v hi, n ≤ hi := fun n hn => by
  have := encodable_eq_some.mp hn
  omega

theorem bothEncodable_le {a b : BitVec 32} {hiA hiB : Nat} :
    ∀ t ∈ bothEncodable a hiA b hiB, t.1 ≤ hiA ∧ t.2 ≤ hiB := fun _ ht =>
  have ⟨hfst, hsnd⟩ := bothEncodable_eq_some.mp ht
  ⟨encodable_le _ hfst, encodable_le _ hsnd⟩

section Taken

variable {r : VbiRec}

theorem takenPicno_le : ∀ n ∈ takenPicno r, n ≤ 79999 := by
  unfold takenPicno
  split
  · exact encodable_le
  · exact fun _ hn => nomatch hn

theorem takenChapter_le : ∀ n ∈ takenChapter r, n ≤ 79 := encodable_le

theorem takenClock_le : ∀ t ∈ takenClock r, t.1 ≤ 9 ∧ t.2 ≤ 59 := by
  unfold takenClock
  split
  · exact bothEncodable_le
  · exact fun _ ht => nomatch ht

theorem takenSecond_le : ∀ t ∈ takenSecond r, t.1 ≤ 59 ∧ t.2 ≤ 99 := by
  unfold takenSecond
  split
  · exact bothEncodable_le
  · exact fun _ ht => nomatch ht

theorem takenPicno_of_clv (h : r.encType = typeClv) : takenPicno r = none :=
  if_neg (by rw [h]; decide)

theorem takenClock_of_not_clv (h : r.encType ≠ typeClv) : takenClock r = none := if_neg h

end Taken

/-! ### The steps of `VENC` (45 R245 to R249) -/

section Steps

variable (r : VbiRec) (p : BitVec 1) (w : VbiWords)

/-- The `PICNO` word of a picture number of the record, with the legacy stop bit for an NTSC source (45 R245). -/
def picnoCode (n : Nat) : LineWord := picnoWord n (r.encStop && p == 0#1)

theorem vencPicno_eq :
    vencPicno r p w =
      { w with
        w117 := (takenPicno r).elim w.w117 (picnoCode r p), w118 := (takenPicno r).elim w.w118 (picnoCode r p) } := by
  rw [vencPicno, takenPicno]
  split
  · cases encodable r.picNo 79999 <;> rfl
  · rfl

theorem vencStop_eq :
    vencStop r w =
      { w with
        w216 := if r.encStop then stopWord else w.w216, w217 := if r.encStop then stopWord else w.w217 } := by
  rw [vencStop]
  split <;> rfl

theorem vencChapter_eq :
    vencChapter r w =
      { w with
        w217 :=
          if r.encType ≠ typeClv ∧ r.encStop = false then (takenChapter r).elim w.w217 chapterWord else w.w217
        w218 := (takenChapter r).elim w.w218 chapterWord } := by
  rw [vencChapter, takenChapter]
  cases encodable r.chNo 79 with
  | none => simp only [Option.elim_none, ite_self]
  | some n =>
    dsimp only
    split <;> rfl

theorem vencTimecode_eq :
    vencTimecode r w =
      { w with
        w117 := (takenClock r).elim w.w117 timecodeWord, w118 := (takenClock r).elim w.w118 timecodeWord } := by
  rw [vencTimecode, takenClock]
  split
  · cases bothEncodable r.clvHr 9 r.clvMin 59 <;> rfl
  · rfl

theorem vencClvsec_eq : vencClvsec r w = { w with w116 := (takenSecond r).elim w.w116 clvsecWord } := by
  rw [vencClvsec, takenSecond]
  split
  · cases bothEncodable r.clvSec 59 r.clvPicNo 99 <;> rfl
  · rfl

theorem vencMarker_eq :
    vencMarker r w = { w with w216 := if r.encType = typeClv then clvmarkWord else w.w216 } := by
  rw [vencMarker]
  split <;> rfl

/-- The two words of lines 17 and 18 of field 1: they never carry both a time code and a picture number. -/
def line17Code : LineWord := (takenClock r).elim ((takenPicno r).elim 0#24 (picnoCode r p)) timecodeWord

/-- The word of line 18 of field 2. -/
def chapterCode : LineWord := (takenChapter r).elim 0#24 chapterWord

/-- The word of line 16 of field 1. -/
def secondCode : LineWord := (takenSecond r).elim 0#24 clvsecWord

/-- The six words of a record in neither lead-in nor lead-out, by the placement table (45 R252). -/
def placedWords : VbiWords where
  w116 := secondCode r
  w117 := line17Code r p
  w118 := line17Code r p
  w216 := if r.encType = typeClv then clvmarkWord else if r.encStop then stopWord else 0#24
  w217 := if r.encStop then stopWord else if r.encType = typeClv then 0#24 else chapterCode r
  w218 := chapterCode r

theorem placedWords_w216 :
    (placedWords r p).w216 = if r.encType = typeClv then clvmarkWord else if r.encStop then stopWord else 0#24 := rfl

theorem placedWords_w217 :
    (placedWords r p).w217 = if r.encStop then stopWord else if r.encType = typeClv then 0#24 else chapterCode r := rfl

/-- The short circuit of lead-in and lead-out, else the placement table (45 R244, R252). -/
theorem vencWords_eq :
    vencWords r p =
      if r.leadIn then .sentinel leadinWord else if r.leadOut then .sentinel leadoutWord else placedWords r p := by
  rw [vencWords]
  simp only [vencPicno_eq, vencStop_eq, vencChapter_eq, vencTimecode_eq, vencClvsec_eq, vencMarker_eq, placedWords,
    VbiWords.zero, line17Code, chapterCode, secondCode]
  cases hstop : r.encStop <;> by_cases hclv : r.encType = typeClv <;> simp [hclv]

theorem vencWords_of_leadIn (hin : r.flags.getLsbD 0 = true) : vencWords r p = .sentinel leadinWord := by
  rw [vencWords_eq, VbiRec.leadIn, if_pos hin]

theorem vencWords_of_leadOut (hin : r.flags.getLsbD 0 = false) (hout : r.flags.getLsbD 1 = true) :
    vencWords r p = .sentinel leadoutWord := by
  rw [vencWords_eq, VbiRec.leadIn, VbiRec.leadOut, if_neg (Bool.eq_false_iff.mp hin), if_pos hout]

theorem vencWords_of_noLead (hin : r.flags.getLsbD 0 = false) (hout : r.flags.getLsbD 1 = false) :
    vencWords r p = placedWords r p := by
  rw [vencWords_eq, VbiRec.leadIn, VbiRec.leadOut, if_neg (Bool.eq_false_iff.mp hin),
    if_neg (Bool.eq_false_iff.mp hout)]

end Steps

/-! ### The words of the statements (45 R245, R247, R248) -/

theorem toNat_le_of_inRange {v : BitVec 32} {hi : Nat} (h : Spec.inRange v hi) : v.toNat ≤ hi := by
  have := toInt_toNat_of_nonneg h.1
  omega

/-- The word of a number that is taken under a condition. -/
theorem elim_eq_ite {α : Type} {x : Option α} {c : Prop} [Decidable c] {a : α} {word : α → LineWord} {v : LineWord}
    (hx : x = if c then some a else none) (hword : c → word a = v) : x.elim 0#24 word = if c then v else 0#24 := by
  subst hx
  split
  · next hc => exact hword hc
  · rfl

section SpecWords

variable (r : VbiRec) (p : BitVec 1)

theorem chapterCode_eq :
    chapterCode r = if Spec.inRange r.chNo 79 then Spec.chapterWord r.chNo.toNat else 0#24 :=
  elim_eq_ite (encodable_eq_ite r.chNo 79) fun h => chapterWord_eq_spec (toNat_le_of_inRange h)

theorem secondCode_eq :
    secondCode r =
      if r.discType = 2#2 ∧ Spec.inRange r.clvSec 59 ∧ Spec.inRange r.clvPicNo 99 then
        Spec.clvsecWord r.clvSec.toNat r.clvPicNo.toNat
      else 0#24 :=
  elim_eq_ite (a := (r.clvSec.toNat, r.clvPicNo.toNat))
    (by simp only [takenSecond, encType_eq_clv_iff, bothEncodable_eq_ite, ite_and])
    fun ⟨_, hsecond, hpicture⟩ => clvsecWord_eq_spec ⟨toNat_le_of_inRange hsecond, toNat_le_of_inRange hpicture⟩

theorem picnoCode_eq {n : Nat} (h : n ≤ 79999) :
    picnoCode r p n =
      Spec.picnoWord n (decide ((r.discType = 1#2 ∧ r.flags.getLsbD 2 = true) ∧ p = 0#1)) := by
  have hstop : (r.encStop && p == 0#1) = decide ((r.discType = 1#2 ∧ r.flags.getLsbD 2 = true) ∧ p = 0#1) := by
    rw [Bool.eq_iff_iff, Bool.and_eq_true, encStop_iff, beq_iff_eq, decide_eq_true_iff]
  rw [picnoCode, picnoWord_eq_spec h, hstop]

theorem picnoElim_eq :
    (takenPicno r).elim 0#24 (picnoCode r p) =
      if r.discType = 1#2 ∧ Spec.inRange r.picNo 79999 then
        Spec.picnoWord r.picNo.toNat (decide ((r.discType = 1#2 ∧ r.flags.getLsbD 2 = true) ∧ p = 0#1))
      else 0#24 :=
  elim_eq_ite (by simp only [takenPicno, encType_eq_cav_iff, encodable_eq_ite, ite_and])
    fun ⟨_, hpicno⟩ => picnoCode_eq r p (toNat_le_of_inRange hpicno)

theorem line17Code_eq_of_clv (h : r.encType = typeClv) :
    line17Code r p =
      if Spec.inRange r.clvHr 9 ∧ Spec.inRange r.clvMin 59 then Spec.timecodeWord r.clvHr.toNat r.clvMin.toNat
      else 0#24 := by
  rw [line17Code, takenPicno_of_clv h, takenClock, if_pos h]
  exact elim_eq_ite (bothEncodable_eq_ite ..) fun ⟨hhour, hminute⟩ =>
    timecodeWord_eq_spec ⟨toNat_le_of_inRange hhour, toNat_le_of_inRange hminute⟩

theorem line17Code_of_not_clv (h : r.encType ≠ typeClv) :
    line17Code r p = (takenPicno r).elim 0#24 (picnoCode r p) := by
  rw [line17Code, takenClock_of_not_clv h]
  rfl

end SpecWords

/-- Everything `VENC` can answer (45 R240, R256). -/
theorem exec_venc_eq_next {s t : State} {p : BitVec 1} :
    exec (.venc p) s = .next t ↔
      (s.status.fault = true ∧ t = s) ∨ (s.status.fault = false ∧ t = { s with vw := vencWords s.vr p }) := by
  change execVenc p s = .next t ↔ _
  rw [execVenc, unlessFault_eq_next, Host.Outcome.next.injEq, eq_comm (b := t)]

theorem exec_venc_of_noFault {s : State} (p : BitVec 1) (h : s.status.fault = false) :
    exec (.venc p) s = .next { s with vw := vencWords s.vr p } :=
  exec_venc_eq_next.mpr (.inr ⟨h, rfl⟩)

/-- Settles O50: the sentinels, or the placement table word by word. -/
theorem vencPlacesWords : Obligations.VencPlacesWords := by
  intro s p hfault
  refine ⟨vencWords s.vr p, exec_venc_of_noFault p hfault, vencWords_of_leadIn s.vr p, vencWords_of_leadOut s.vr p,
    fun hin hout => ?_⟩
  rw [vencWords_of_noLead s.vr p hin hout]
  refine ⟨secondCode_eq s.vr, ?_, rfl, ?_, ?_, chapterCode_eq s.vr⟩
  · change line17Code s.vr p = _
    by_cases hclv : s.vr.encType = typeClv
    · rw [if_pos ((encType_eq_clv_iff s.vr).mp hclv), line17Code_eq_of_clv _ _ hclv]
    · rw [if_neg (mt (encType_eq_clv_iff s.vr).mpr hclv), line17Code_of_not_clv _ _ hclv, picnoElim_eq]
  · simp only [placedWords_w216, encType_eq_clv_iff, encStop_iff, clvmarkWord, stopWord]
  · simp only [placedWords_w217, encType_eq_clv_iff, encStop_iff, stopWord, chapterCode_eq]

/-! ### What `VENC` does not read and does not write (45 R250) -/

/-- Bit `k` below `n` is one of the `n` low bits. -/
theorem getLsbD_eq_of_low {m n k : Nat} {x y : BitVec m} (h : x.extractLsb' 0 n = y.extractLsb' 0 n) (hk : k < n) :
    x.getLsbD k = y.getLsbD k := by
  have hbit := congrArg (BitVec.getLsbD · k) h
  simpa [BitVec.getLsbD_extractLsb', hk] using hbit

/-- The words depend on the three low flags, the type and the numbers alone. -/
theorem vencWords_congr {q r : VbiRec} (p : BitVec 1) (hflags : q.flags.extractLsb' 0 3 = r.flags.extractLsb' 0 3)
    (hfields : (q.discType, q.picNo, q.chNo, q.clvHr, q.clvMin, q.clvSec, q.clvPicNo) =
      (r.discType, r.picNo, r.chNo, r.clvHr, r.clvMin, r.clvSec, r.clvPicNo)) :
    vencWords q p = vencWords r p := by
  simp only [Prod.mk.injEq] at hfields
  obtain ⟨htype, hpicno, hchapter, hhour, hminute, hsecond, hpicture⟩ := hfields
  have hin : q.leadIn = r.leadIn := getLsbD_eq_of_low hflags (by decide)
  have hout : q.leadOut = r.leadOut := getLsbD_eq_of_low hflags (by decide)
  have hstop : q.picStop = r.picStop := getLsbD_eq_of_low hflags (by decide)
  have hencType : q.encType = r.encType := by rw [VbiRec.encType, VbiRec.encType, htype]
  have hencStop : q.encStop = r.encStop := by rw [VbiRec.encStop, VbiRec.encStop, hencType, hstop]
  have hcode17 : picnoCode q p = picnoCode r p := by
    funext n
    rw [picnoCode, picnoCode, hencStop]
  have hline17 : line17Code q p = line17Code r p := by
    rw [line17Code, line17Code, hcode17, takenClock, takenClock, takenPicno, takenPicno, hencType, hhour, hminute,
      hpicno]
  have hcode : chapterCode q = chapterCode r := by rw [chapterCode, takenChapter, hchapter, chapterCode, takenChapter]
  have hclvsec : secondCode q = secondCode r := by
    rw [secondCode, takenSecond, hencType, hsecond, hpicture, secondCode, takenSecond]
  rw [vencWords_eq, vencWords_eq, hin, hout, placedWords, placedWords, hencType, hencStop, hline17, hcode, hclvsec]

section Numeric

variable (r : VbiRec) (p : BitVec 1)

theorem isNumeric_chapterCode : IsNumeric (chapterCode r) :=
  isNumeric_elim fun n hn => .of_chapter (spec_chapter_chapterWord (takenChapter_le n hn))

theorem isNumeric_secondCode : IsNumeric (secondCode r) :=
  isNumeric_elim fun t ht => .of_clvsec (spec_clvsec_clvsecWord (takenSecond_le t ht))

theorem isNumeric_line17Code : IsNumeric (line17Code r p) := by
  rw [line17Code]
  cases hclock : takenClock r with
  | none => exact isNumeric_elim fun n hn => .of_picno (spec_picno_picnoWord (takenPicno_le n hn) _)
  | some t => exact .of_timecode (spec_timecode_timecodeWord (takenClock_le t hclock))

/-- Line 16 of field 2 holds no number. -/
theorem placedWords_w216_cases :
    (placedWords r p).w216 = clvmarkWord ∨ (placedWords r p).w216 = stopWord ∨ (placedWords r p).w216 = 0#24 := by
  rw [placedWords_w216]
  split
  · exact .inl rfl
  · split
    · exact .inr (.inl rfl)
    · exact .inr (.inr rfl)

theorem placedWords_w217_cases : (placedWords r p).w217 = stopWord ∨ IsNumeric (placedWords r p).w217 := by
  rw [placedWords_w217]
  split
  · exact .inl rfl
  · split
    · exact .inr (.inl rfl)
    · exact .inr (isNumeric_chapterCode r)

/-- The sentinels are neither programme status nor user code words (30 R92). -/
theorem neitherStatusNorUsercode_sentinels :
    NeitherStatusNorUsercode leadinWord ∧ NeitherStatusNorUsercode leadoutWord ∧ NeitherStatusNorUsercode stopWord ∧
      NeitherStatusNorUsercode clvmarkWord := by
  unfold NeitherStatusNorUsercode
  decide

/-- Every word of `VENC` is a sentinel or numeric. -/
theorem vencWords_neitherStatusNorUsercode :
    ∀ c ∈ [(vencWords r p).w116, (vencWords r p).w117, (vencWords r p).w118, (vencWords r p).w216,
      (vencWords r p).w217, (vencWords r p).w218], NeitherStatusNorUsercode c := by
  obtain ⟨hleadin, hleadout, hstop, hmark⟩ := neitherStatusNorUsercode_sentinels
  have hzero : NeitherStatusNorUsercode 0#24 := IsNumeric.neitherStatusNorUsercode (.inl rfl)
  rw [vencWords_eq]
  split
  · simp [VbiWords.sentinel, hzero, hleadin]
  split
  · simp [VbiWords.sentinel, hzero, hleadout]
  have h216 : NeitherStatusNorUsercode (placedWords r p).w216 := by
    rcases placedWords_w216_cases r p with h | h | h <;> rwa [h]
  have h217 : NeitherStatusNorUsercode (placedWords r p).w217 := by
    rcases placedWords_w217_cases r p with h | h
    · rwa [h]
    · exact h.neitherStatusNorUsercode
  have h116 := (isNumeric_secondCode r).neitherStatusNorUsercode
  have h117 := (isNumeric_line17Code r p).neitherStatusNorUsercode
  have h218 := (isNumeric_chapterCode r).neitherStatusNorUsercode
  exact List.forall_mem_cons.mpr ⟨h116, List.forall_mem_cons.mpr ⟨h117, List.forall_mem_cons.mpr ⟨h117,
    List.forall_mem_cons.mpr ⟨h216, List.forall_mem_cons.mpr ⟨h217, List.forall_mem_singleton.mpr h218⟩⟩⟩⟩⟩

end Numeric

/-- Settles O51: under fault both states answer unchanged; otherwise the six words are those of the fields that agree,
each a sentinel or numeric. -/
theorem vencIgnoresStatusAndUserCode : Obligations.VencIgnoresStatusAndUserCode := by
  intro s u p t hfault hvw hflags hfields h
  rcases exec_venc_eq_next.mp h with ⟨hs, rfl⟩ | ⟨hs, rfl⟩
  · refine ⟨exec_venc_eq_next.mpr (.inl ⟨hfault.trans hs, by rw [← hvw]⟩), fun hs' => ?_⟩
    exact absurd (hs.symm.trans hs') (by decide)
  · refine ⟨?_, fun _ => vencWords_neitherStatusNorUsercode s.vr p⟩
    rw [exec_venc_of_noFault p (hfault.trans hs), vencWords_congr p hflags hfields]

end Sys2Proof.Proofs
end

section
/-! PROOFS. `VENC` followed by `VDEC` (45_vbi_encode.md R253, R254): what `VDEC` finds in the words of any record, and
why that is the record itself on `VbiEncodable`. -/

namespace Sys2Proof.Proofs

open Sys2Proof.Machine

/-! ### What `VDEC` finds in the words of a record (44_vbi_decode.md R213 to R220; 45 R252) -/

section Found

variable (r : VbiRec) (p : BitVec 1)

theorem spec_chapter_chapterCode : Spec.chapter (chapterCode r) = takenChapter r := by
  rw [chapterCode]
  cases h : takenChapter r with
  | none => rfl
  | some n => exact spec_chapter_chapterWord (takenChapter_le n h)

theorem spec_clvsec_secondCode : Spec.clvsec (secondCode r) = takenSecond r := by
  rw [secondCode]
  cases h : takenSecond r with
  | none => rfl
  | some t => exact spec_clvsec_clvsecWord (takenSecond_le t h)

/-- A time code is taken of a CLV record alone, which gives no picture number (45 R251). -/
theorem takenPicno_of_clock {t : Nat × Nat} (h : takenClock r = some t) : takenPicno r = none := by
  by_contra hpicno
  have hclv : r.encType = typeClv := (Option.ite_none_right_eq_some.mp h).1
  exact hpicno (takenPicno_of_clv hclv)

theorem spec_picno_line17Code : Spec.picno (line17Code r p) = takenPicno r := by
  rw [line17Code]
  cases hclock : takenClock r with
  | none =>
    cases hpicno : takenPicno r with
    | none => exact spec_picno_zero
    | some n => exact spec_picno_picnoWord (takenPicno_le n hpicno) _
  | some t =>
    rw [takenPicno_of_clock r hclock]
    exact spec_picno_timecodeWord (takenClock_le t hclock).1

theorem spec_timecode_line17Code (h : takenPicno r = none) : Spec.timecode (line17Code r p) = takenClock r := by
  rw [line17Code, h]
  cases hclock : takenClock r with
  | none => exact spec_timecode_zero
  | some t => exact spec_timecode_timecodeWord (takenClock_le t hclock)

theorem foundPicno_placedWords : foundPicno (placedWords r p) = takenPicno r := by
  change (Spec.picno (line17Code r p)).or (Spec.picno (line17Code r p)) = takenPicno r
  rw [Option.or_self, spec_picno_line17Code]

theorem foundClock_placedWords : foundClock (placedWords r p) = takenClock r := by
  rw [foundClock, foundPicno_placedWords]
  change (if takenPicno r = none then
    (Spec.timecode (line17Code r p)).or (Spec.timecode (line17Code r p)) else none) = takenClock r
  rw [Option.or_self]
  split
  · next h => exact spec_timecode_line17Code r p h
  · next h =>
    cases hclock : takenClock r with
    | none => rfl
    | some t => exact absurd (takenPicno_of_clock r hclock) h

/-- The disc type that comes back: CAV by the picture number, CLV by the marker (45 R249, R254). -/
def returnedType : BitVec 2 :=
  if takenPicno r ≠ none then typeCav else if r.encType = typeClv then typeClv else typeUnknown

theorem marker_placedWords_iff : (placedWords r p).w216 = clvmarkWord ↔ r.encType = typeClv := by
  rw [placedWords_w216]
  split
  · next h => exact ⟨fun _ => h, fun _ => rfl⟩
  · next h => exact ⟨fun he => absurd he (by split <;> decide), fun he => absurd he h⟩

theorem foundType_placedWords : foundType (placedWords r p) = returnedType r := by
  have hclv : takenClock r ≠ none ∨ r.encType = typeClv ↔ r.encType = typeClv :=
    or_iff_right_of_imp fun h => by_contra fun hne => h (takenClock_of_not_clv hne)
  simp only [foundType, foundPicno_placedWords, foundClock_placedWords, marker_placedWords_iff, hclv, returnedType]

theorem foundChapter_placedWords : foundChapter (placedWords r p) = takenChapter r := by
  have h218 : Spec.chapter (placedWords r p).w218 = takenChapter r := spec_chapter_chapterCode r
  have h217 : Spec.chapter (placedWords r p).w217 = none ∨ Spec.chapter (placedWords r p).w217 = takenChapter r := by
    rw [placedWords_w217]
    split
    · exact .inl rfl
    split
    · exact .inl rfl
    · exact .inr (spec_chapter_chapterCode r)
  rw [foundChapter, h218]
  split
  · rfl
  · rcases h217 with h | h <;> rw [h]
    · rfl
    · exact Option.or_self

/-- No chapter word is the stop code, so `VDEC` finds the stop of `VENC` and no other. -/
theorem foundStop_placedWords_iff : FoundStop (placedWords r p) ↔ r.encStop = true := by
  obtain ⟨-, -, hchapter⟩ := (isNumeric_chapterCode r).ne_sentinels
  rw [FoundStop, placedWords_w216, placedWords_w217]
  split
  · next hclv => simp [encStop_of_clv r hclv, clvmarkWord, stopWord]
  · next hclv => cases r.encStop <;> simp [hchapter]

theorem foundSecond_placedWords : foundSecond (placedWords r p) = takenSecond r := by
  have h216 : Spec.clvsec (placedWords r p).w216 = none := by
    rcases placedWords_w216_cases r p with h | h | h <;> rw [h] <;> rfl
  rw [foundSecond, h216, Option.or_none]
  exact spec_clvsec_secondCode r

/-! ### The record that comes back -/

theorem noLead_placedWords : Spec.noLead (placedWords r p) := by
  have h217 : (placedWords r p).w217 ≠ leadinWord ∧ (placedWords r p).w217 ≠ leadoutWord := by
    rcases placedWords_w217_cases r p with h | h
    · rw [h]
      decide
    · obtain ⟨hin, hout, -⟩ := h.ne_sentinels
      exact ⟨hin, hout⟩
  obtain ⟨hin217, hout217⟩ := h217
  obtain ⟨hin17, hout17, -⟩ := (isNumeric_line17Code r p).ne_sentinels
  obtain ⟨hin18, hout18, -⟩ := (isNumeric_chapterCode r).ne_sentinels
  refine ⟨?_, ?_⟩
  · rintro (h | h | h | h)
    exacts [hin17 h.symm, hin17 h.symm, hin217 h.symm, hin18 h.symm]
  · rintro (h | h | h | h)
    exacts [hout17 h.symm, hout17 h.symm, hout217 h.symm, hout18 h.symm]

theorem placedWords_w216_not_isStatus : ¬Spec.isStatus (placedWords r p).w216 := by
  rcases placedWords_w216_cases r p with h | h | h <;> rw [h] <;> decide

/-- The record of the numbers that `VENC` takes, over `VBI_DEFAULT`. -/
def returnedRecord : VbiRec :=
  { VbiRec.default with
    discType := returnedType r
    picNo := Spec.number (takenPicno r)
    chNo := Spec.number (takenChapter r)
    clvHr := Spec.number ((takenClock r).map Prod.fst)
    clvMin := Spec.number ((takenClock r).map Prod.snd)
    clvSec := Spec.number ((takenSecond r).map Prod.fst)
    clvPicNo := Spec.number ((takenSecond r).map Prod.snd)
    flags := if r.encStop then 4#13 else 0#13 }

/-- `VDEC` of the words of any record outside lead-in and lead-out, in `VbiEncodable` or not (45 R254). -/
theorem vdecRecord_placedWords : vdecRecord (placedWords r p) = returnedRecord r := by
  rw [vdecRecord_of_numeric (noLead_placedWords r p) (isNumeric_secondCode r).not_isStatus
    (placedWords_w216_not_isStatus r p)]
  simp only [numericRecord, foundType_placedWords, foundPicno_placedWords, foundChapter_placedWords,
    foundClock_placedWords, foundSecond_placedWords, foundStop_placedWords_iff, returnedRecord]

end Found

/-! ### The numbers of `VbiEncodable` come back (45 R253) -/

theorem number_encodable_of_inRange {v : BitVec 32} {hi : Int} (h : Spec.inRange v hi) :
    Spec.number (encodable v hi) = v := by
  rw [encodable_eq_ite, if_pos h, Spec.number, BitVec.ofNat_toNat, BitVec.setWidth_eq]

theorem encodable_absent (hi : Int) : encodable absent hi = none := if_neg fun ⟨hpos, _⟩ => absurd hpos (by decide)

theorem number_encodable {v : BitVec 32} {hi : Int} (h : absentOrUpTo v hi) : Spec.number (encodable v hi) = v := by
  rcases h with rfl | hrange
  · rw [encodable_absent]
    rfl
  · exact number_encodable_of_inRange hrange

theorem number_bothEncodable {a b : BitVec 32} {hiA hiB : Int} (h : pairAbsentOrUpTo a hiA b hiB) :
    Spec.number ((bothEncodable a hiA b hiB).map Prod.fst) = a ∧
      Spec.number ((bothEncodable a hiA b hiB).map Prod.snd) = b := by
  rcases h with ⟨rfl, rfl⟩ | ⟨ha, hb⟩
  · rw [bothEncodable, encodable_absent]
    exact ⟨rfl, rfl⟩
  · rw [bothEncodable_eq_ite, if_pos ⟨ha, hb⟩]
    exact ⟨by simp [Spec.number], by simp [Spec.number]⟩

/-! ### The round trip, case by case -/

/-- The low flags of a CAV record of `VbiEncodable`. -/
theorem stopFlags_bits :
    ∀ stop : Bool, (if stop then 4#13 else 0#13).getLsbD 0 = false ∧ (if stop then 4#13 else 0#13).getLsbD 1 = false ∧
      (if stop then 4#13 else 0#13).getLsbD 2 = stop := by decide

theorem returnedRecord_cav {pic ch : BitVec 32} (stop : Bool) (hPic : Spec.inRange pic 79999)
    (hCh : absentOrUpTo ch 79) :
    let r := { VbiRec.default with
      discType := typeCav, picNo := pic, chNo := ch, flags := if stop then 4#13 else 0#13 }
    returnedRecord r = r := by
  intro r
  have hpicno : takenPicno r = encodable pic 79999 := if_pos rfl
  have htype : returnedType r = typeCav := if_pos (by
    rw [hpicno, encodable_eq_ite, if_pos hPic]
    exact Option.some_ne_none _)
  have hstop : r.encStop = stop := by
    obtain ⟨-, -, hbit⟩ := stopFlags_bits stop
    exact (Bool.true_and _).trans hbit
  rw [returnedRecord, htype, hpicno, number_encodable_of_inRange hPic, takenChapter, number_encodable hCh, hstop]
  rfl

theorem returnedRecord_clv {ch hr mn sc pn : BitVec 32} (hCh : absentOrUpTo ch 79)
    (hClock : pairAbsentOrUpTo hr 9 mn 59) (hSecond : pairAbsentOrUpTo sc 59 pn 99) :
    let r := { VbiRec.default with
      discType := typeClv, chNo := ch, clvHr := hr, clvMin := mn, clvSec := sc, clvPicNo := pn }
    returnedRecord r = r := by
  intro r
  have hclock : takenClock r = bothEncodable hr 9 mn 59 := if_pos rfl
  have hsecond : takenSecond r = bothEncodable sc 59 pn 99 := if_pos rfl
  obtain ⟨hhour, hminute⟩ := number_bothEncodable hClock
  obtain ⟨hsec, hpicture⟩ := number_bothEncodable hSecond
  rw [returnedRecord, hclock, hsecond, hhour, hminute, hsec, hpicture, takenChapter, number_encodable hCh]
  rfl

theorem returnedRecord_unknown {ch : BitVec 32} (hCh : absentOrUpTo ch 79) :
    returnedRecord { VbiRec.default with chNo := ch } = { VbiRec.default with chNo := ch } := by
  rw [returnedRecord, takenChapter, number_encodable hCh]
  rfl

theorem vdecRecord_vencWords_of_noLead {r : VbiRec} (p : BitVec 1) (hin : r.flags.getLsbD 0 = false)
    (hout : r.flags.getLsbD 1 = false) : vdecRecord (vencWords r p) = returnedRecord r := by
  rw [vencWords_of_noLead r p hin hout, vdecRecord_placedWords]

/-- `VDEC` of the words of an encodable record is that record. -/
theorem vdecRecord_vencWords {r : VbiRec} (p : BitVec 1) (h : VbiEncodable r) : vdecRecord (vencWords r p) = r := by
  cases h with
  | leadIn => exact congrArg vdecRecord (vencWords_of_leadIn _ p rfl)
  | leadOut => exact congrArg vdecRecord (vencWords_of_leadOut _ p rfl rfl)
  | cav pic ch stop hPic hCh =>
    obtain ⟨hin, hout, -⟩ := stopFlags_bits stop
    rw [vdecRecord_vencWords_of_noLead]
    exacts [returnedRecord_cav stop hPic hCh, hin, hout]
  | clv ch hr mn sc pn hCh hClock hSecond =>
    rw [vdecRecord_vencWords_of_noLead]
    exacts [returnedRecord_clv hCh hClock hSecond, BitVec.getLsbD_zero, BitVec.getLsbD_zero]
  | unknown ch hCh =>
    rw [vdecRecord_vencWords_of_noLead]
    exacts [returnedRecord_unknown hCh, BitVec.getLsbD_zero, BitVec.getLsbD_zero]

/-- Settles O52: `VENC` writes the words, and `VDEC` finds in them the record they were written from. -/
theorem encodeThenDecodeRoundTrip : Obligations.EncodeThenDecodeRoundTrip := by
  intro s p hfault hencodable
  refine ⟨vencWords s.vr p, exec_venc_of_noFault p hfault, ?_⟩
  have hvdec := exec_vdec_of_noFault (s := { s with vw := vencWords s.vr p }) hfault
  rwa [vdecRecord_vencWords p hencodable] at hvdec

end Sys2Proof.Proofs
end

section
/-! PROOFS. The fatal errors of an illegal command word and of the checks of `DECF` (60_exceptions.md R263, R264, R266,
R267; 41_comb_separation.md R130, R131). -/

namespace Sys2Proof.Proofs

open Sys2Proof.Machine

/-! ### An illegal command word (60 R263) -/

/-- A word that is no command's encoding raises `BadCommand` with the word as `ERRINFO` (30 R86, 60 R263). -/
theorem commandWrite_of_illegal {s : State} {c : Word} (hfault : s.status.fault = false)
    (hillegal : ¬∃ i, encode i = .command c) : commandWrite c s = .next (Spec.raised s 1#8 c) := by
  unfold commandWrite
  split
  · next i hdecode => exact absurd ⟨i, encode_of_decodeCommand hdecode⟩ hillegal
  · exact unlessFault_eq_next.mpr (.inr ⟨hfault, rfl⟩)

/-- Settles O7: the words outside the list decode to no command, and under fault they are refused as they are not
`SRST`. -/
theorem illegalCommandRaisesBadCommand : Obligations.IllegalCommandRaisesBadCommand := by
  intro s c rest hhost hc
  rw [step_of_host_cons hhost, hostEvent_writeReg_zero]
  have hsrst : c ≠ 0x0000000F#32 := by
    rintro rfl
    exact hc (by decide)
  exact ⟨fun hfault => commandWrite_of_illegal hfault (mt mem_legalWords_iff.mpr hc),
    fun hfault => commandWrite_of_fault hfault hsrst⟩

/-! ### The checks of `DECF` in order (41 R131; 60 R264, R266, R267) -/

/-- The `ERRINFO` of a second field's value: the value with bit 31 set (60 R266, R267). -/
theorem secondFieldInfo_eq_ofNat {n : Nat} (v : BitVec n) (h : n ≤ 31) :
    0x80000000#32 ||| v.setWidth 32 = BitVec.ofNat 32 (0x80000000 + v.toNat) := by
  have hlt : v.toNat < 2 ^ 31 := v.isLt.trans_le (Nat.pow_le_pow_right (by decide) h)
  have hor : 0x80000000 + v.toNat = 0x80000000 ||| v.toNat := Nat.two_pow_add_eq_or_of_lt hlt 1
  rw [hor, BitVec.ofNat_or, BitVec.ofNat_toNat]

/-- The checks with their conditions and `ERRINFO` words as numbers; the start of the command leaves what they read. -/
theorem decfViolation_beginDecf (s : State) :
    decfViolation s.beginDecf =
      if ¬s.status.configured = true then some (.notConfigured, 0#32)
      else if ¬s.actVp.isPal = 0#1 then some (.palUnsupported, 0#32)
      else if ¬s.f1Len.toNat = s.actVp.fieldWidth.toNat * s.actVp.fieldHeight.toNat then
        some (.sizeMismatch, BitVec.ofNat 32 s.f1Len.toNat)
      else if ¬s.f2Len.toNat = s.actVp.fieldWidth.toNat * s.actVp.fieldHeight.toNat then
        some (.sizeMismatch, BitVec.ofNat 32 (0x80000000 + s.f2Len.toNat))
      else if ¬(1 ≤ s.f1Phase.toNat ∧ s.f1Phase.toNat ≤ 4) then
        some (.phaseIdError, BitVec.ofNat 32 s.f1Phase.toNat)
      else if ¬(1 ≤ s.f2Phase.toNat ∧ s.f2Phase.toNat ≤ 4) then
        some (.phaseIdError, BitVec.ofNat 32 (0x80000000 + s.f2Phase.toNat))
      else none := by
  simp only [decfViolation, State.beginDecf_status, State.beginDecf_actVp, State.beginDecf_f1Len,
    State.beginDecf_f2Len, State.beginDecf_f1Phase, State.beginDecf_f2Phase, BitVec.ofNat_toNat,
    secondFieldInfo_eq_ofNat s.f2Len (by decide), secondFieldInfo_eq_ofNat s.f2Phase (by decide), ← legalPhase_iff,
    Bool.not_eq_true', Bool.not_eq_true, ne_eq]

/-- A `DECF` with a violation clears `FRAME_VALID` and records the error (41 R130, R131). -/
theorem exec_decf_of_violation {s : State} {e : ErrCode} {info : Word} (hfault : s.status.fault = false)
    (hcheck : decfViolation s.beginDecf = some (e, info)) :
    ∃ n, exec .decf s = .next (Spec.decfFailed s n e.code info) := by
  refine ⟨s.rgbEpoch + 1, ?_⟩
  change execDecf s = _
  rw [execDecf_eq hfault, hcheck]
  rfl

/-- Settles O18: each clause selects one branch of the checks. -/
theorem decfChecksInOrder : Obligations.DecfChecksInOrder := by
  intro s hfault n ok5 ok6 fails
  have raises : ∀ (e : ErrCode) {info : Word}, decfViolation s.beginDecf = some (e, info) → fails e.code info :=
    fun _ _ => exec_decf_of_violation hfault
  refine ⟨fun h1 => raises .notConfigured ?_, fun h1 h2 => raises .palUnsupported ?_,
    fun h1 h2 h3 => raises .sizeMismatch ?_, fun h1 h2 h3 h4 => raises .sizeMismatch ?_,
    fun h1 h2 h3 h4 h5 => raises .phaseIdError ?_, fun h1 h2 h3 h4 h5 h6 => raises .phaseIdError ?_⟩
  · rw [decfViolation_beginDecf, if_pos (Bool.not_eq_true _ ▸ h1)]
  · rw [decfViolation_beginDecf, if_neg (not_not_intro h1), if_pos (h2 ▸ by decide)]
  · rw [decfViolation_beginDecf, if_neg (not_not_intro h1), if_neg (not_not_intro h2), if_pos h3]
  · rw [decfViolation_beginDecf, if_neg (not_not_intro h1), if_neg (not_not_intro h2), if_neg (not_not_intro h3),
      if_pos h4]
  · rw [decfViolation_beginDecf, if_neg (not_not_intro h1), if_neg (not_not_intro h2), if_neg (not_not_intro h3),
      if_neg (not_not_intro h4), if_pos h5]
  · rw [decfViolation_beginDecf, if_neg (not_not_intro h1), if_neg (not_not_intro h2), if_neg (not_not_intro h3),
      if_neg (not_not_intro h4), if_neg (not_not_intro h5), if_pos h6]

end Sys2Proof.Proofs
end

section
/-! PROOFS. The machine never stops, what the frame and `PREV` survive, and what reset leaves in the buffers
(60_exceptions.md R277; 70_reset_and_hazards.md R291, R292, R298, R304). -/

namespace Sys2Proof.Proofs

open Sys2Proof.Machine

/-! ### Every instruction and every event has an outcome (70 R304) -/

/-- The outcome is a next state: neither a fault nor a refusal (log 19). -/
def AnswersNext (r : Result) : Prop := ∃ t, r = .next t

/-- Refusal under fault is itself a next state (40 R111). -/
theorem answersNext_unlessFault {s : State} {run : State → Result}
    (h : s.status.fault = false → AnswersNext (run s)) : AnswersNext (unlessFault s run) := by
  cases hfault : s.status.fault with
  | true => exact ⟨s, unlessFault_eq_next.mpr (.inl ⟨hfault, rfl⟩)⟩
  | false =>
    obtain ⟨t, ht⟩ := h hfault
    exact ⟨t, unlessFault_eq_next.mpr (.inr ⟨hfault, ht⟩)⟩

theorem answersNext_recordStep (s : State) (f : VbiRec → VbiRec) : AnswersNext (recordStep s f) :=
  answersNext_unlessFault fun _ => ⟨_, rfl⟩

/-- A violation of the checks of `CFG` is raised as a next state (40 R115). -/
theorem answersNext_execCfg (s : State) : AnswersNext (execCfg s) :=
  answersNext_unlessFault fun _ => by
    split
    · exact ⟨_, rfl⟩
    · exact ⟨_, rfl⟩

/-- A violation of the checks of `DECF` is raised as a next state (41 R131). -/
theorem answersNext_execDecf (s : State) : AnswersNext (execDecf s) :=
  answersNext_unlessFault fun _ => by
    split
    · exact ⟨_, rfl⟩
    · exact ⟨_, rfl⟩

/-- No arm of dispatch stops: each is a command with its own answer, or a line code, which rewrites the record. -/
theorem answersNext_exec (i : Instr) (s : State) : AnswersNext (exec i s) := by
  cases i with
  | nop => exact ⟨s, nopChangesNothing s⟩
  | cfg => exact answersNext_execCfg s
  | decf => exact answersNext_execDecf s
  | vdec | venc =>
    simp only [exec, execVdec, execVenc]
    exact answersNext_unlessFault fun _ => ⟨_, rfl⟩
  | srst => exact ⟨_, rfl⟩
  | leadin | leadout | stop | clvmark | picno | timecode | chapter | clvsec | statusCxOn | statusCxOff | usercode =>
    simp only [exec, execLeadin, execLeadout, execStop, execClvmark, execPicno, execTimecode, execChapter, execClvsec,
      execStatusCxOn, execStatusCxOff, execUsercode]
    exact answersNext_recordStep s _

/-- An illegal word is raised, or refused, as a next state (40 R110, R111). -/
theorem answersNext_commandWrite (c : Word) (s : State) : AnswersNext (commandWrite c s) := by
  unfold commandWrite
  split
  · exact answersNext_exec _ s
  · exact answersNext_unlessFault fun _ => ⟨_, rfl⟩

theorem answersNext_hostEvent (e : HostEvent) (s : State) : AnswersNext (hostEvent e s) := by
  cases e with
  | writeReg k v =>
    rcases index_cases k with ⟨r, rfl⟩ | hreserved
    · by_cases hcmd : r = .cmd
      · subst hcmd
        exact answersNext_commandWrite v s
      · exact ⟨_, hostEvent_writeReg_index s v hcmd⟩
    · exact ⟨s, hostEvent_writeReg_reserved s v hreserved⟩
  | readReg | writeBuf | readBuf | resetInput => exact ⟨_, rfl⟩

/-- With no event pending the block stays where it is (log 5). -/
theorem step_of_host_nil {s : State} (h : s.host = []) : step s = .next s := by
  unfold step nextEvent
  rw [h]

theorem answersNext_step (s : State) : AnswersNext (step s) := by
  cases hhost : s.host with
  | nil => exact ⟨s, step_of_host_nil hhost⟩
  | cons e rest =>
    rw [step_of_host_cons hhost]
    exact answersNext_hostEvent e _

/-- Settles O10: every event and every arm of dispatch answers a next state. -/
theorem everyStepAnswersNext : Obligations.EveryStepAnswersNext := ⟨answersNext_step, answersNext_exec⟩

/-! ### The frame and `PREV` over a step (70 R298) -/

/-- Two states with the same frame: what the host reads of it, its descriptor, and the previous frame (10 R47, R49). The
number of the free values of `RGB` belongs to it, since it selects what the unspecified elements read (log 7). -/
structure SameFrame (s t : State) : Prop where
  frameValid : t.status.frameValid = s.status.frameValid
  frWidth : t.frWidth = s.frWidth
  frHeight : t.frHeight = s.frHeight
  rgb : t.rgb = s.rgb
  rgbEpoch : t.rgbEpoch = s.rgbEpoch
  prev : t.prev = s.prev

theorem SameFrame.refl (s : State) : SameFrame s s := ⟨rfl, rfl, rfl, rfl, rfl, rfl⟩

/-- The elements of `RGB` read alike, those that are unspecified too. -/
theorem SameFrame.readBuf_rgb {s t : State} (h : SameFrame s t) (k : Nat) : t.readBuf .rgb k = s.readBuf .rgb k := by
  simp only [State.readBuf, State.rgbElem, h.frameValid, h.rgb, h.rgbEpoch]

theorem sameFrame_writeNamed (s : State) (r : RegName) (v : Word) : SameFrame s (s.writeNamed r v) where
  frameValid := congrArg Status.frameValid (State.writeNamed_status s r v)
  frWidth := State.writeNamed_frWidth s r v
  frHeight := State.writeNamed_frHeight s r v
  rgb := State.writeNamed_rgb s r v
  rgbEpoch := by cases r <;> rfl
  prev := State.writeNamed_prev s r v

theorem sameFrame_writeBuf (s : State) (sp : BufSpace) (k : Nat) (v : Sample) : SameFrame s (s.writeBuf sp k v) := by
  rw [writeBuf_frame]
  exact ⟨rfl, rfl, rfl, rfl, rfl, rfl⟩

/-- Fatal entry writes `FAULT`, `ERR` and `ERRINFO` only (60 R272). -/
theorem sameFrame_raise (s : State) (e : ErrCode) (info : Word) : SameFrame s (s.raise e info) :=
  ⟨rfl, rfl, rfl, rfl, rfl, rfl⟩

/-- The instructions that touch the frame are `CFG`, `DECF` and `SRST`. -/
theorem sameFrame_of_execEffect {i : Instr} {s t : State} (h : ExecEffect s i t) :
    SameFrame s t ∨ i = .cfg ∨ i = .decf ∨ i = .srst := by
  cases h with
  | refused | nop => exact .inl (.refl s)
  | vdec | venc | lineCode => exact .inl ⟨rfl, rfl, rfl, rfl, rfl, rfl⟩
  | cfgRaised | cfgLatched => exact .inr (.inl rfl)
  | decfRaised | decfCompleted => exact .inr (.inr (.inl rfl))
  | srst => exact .inr (.inr (.inr rfl))

/-- Only `0x00000002` is the `DECF` word (30 R83). -/
theorem command_eq_decf {c : Word} (h : decode (.command c) = .ok .decf) : c = 0x00000002#32 :=
  (CodeWord.command.inj (encode_of_decodeCommand h)).symm

/-- The events that replace or drop the frame: the reset input, and the writes of `CFG`, `DECF` and `SRST`. -/
def ReplacesFrame (e : HostEvent) : Prop :=
  e = .resetInput ∨ e = .writeReg 0 0x00000001#32 ∨ e = .writeReg 0 0x00000002#32 ∨ e = .writeReg 0 0x0000000F#32

/-- A word that is decoded as one of the three commands is the word of the obligation. -/
theorem replacesFrame_of_decode {c : Word} {i : Instr} (hdecode : decode (.command c) = .ok i)
    (hi : i = .cfg ∨ i = .decf ∨ i = .srst) : ReplacesFrame (.writeReg 0 c) := by
  rcases hi with rfl | rfl | rfl
  · exact .inr (.inl (by rw [command_eq_cfg hdecode]))
  · exact .inr (.inr (.inl (by rw [command_eq_decf hdecode])))
  · exact .inr (.inr (.inr (by rw [command_eq_srst hdecode])))

theorem sameFrame_of_eventEffect {e : HostEvent} {s t : State} (h : EventEffect s e t) :
    SameFrame s t ∨ ReplacesFrame e := by
  cases h with
  | registerWrite r v => exact .inl (sameFrame_writeNamed s r v)
  | bufferWrite sp k v => exact .inl (sameFrame_writeBuf s sp k v)
  | discarded | illegalRefused => exact .inl (.refl s)
  | registerRead | bufferRead => exact .inl ⟨rfl, rfl, rfl, rfl, rfl, rfl⟩
  | illegalRaised c => exact .inl (sameFrame_raise s .badCommand c)
  | resetInput => exact .inr (.inl rfl)
  | command hdecode heffect => exact (sameFrame_of_execEffect heffect).imp_right (replacesFrame_of_decode hdecode)

/-- The frame does not depend on the events still pending, so taking one off the queue keeps it. -/
theorem sameFrame_of_step {s t : State} (h : step s = .next t) :
    SameFrame s t ∨ ∃ e rest, s.host = e :: rest ∧ ReplacesFrame e := by
  rcases step_cases h with ⟨-, rfl⟩ | ⟨e, rest, hhost, heffect⟩
  · exact .inl (.refl t)
  · rcases sameFrame_of_eventEffect heffect with ⟨hvalid, hwidth, hheight, hrgb, hepoch, hprev⟩ | hreplaces
    · exact .inl ⟨hvalid, hwidth, hheight, hrgb, hepoch, hprev⟩
    · exact .inr ⟨e, rest, hhost, hreplaces⟩

/-- Settles O58, by the effects of an event: those it does not exclude keep the frame. -/
theorem frameStaysUntilReplaced : Obligations.FrameStaysUntilReplaced := by
  intro s t h hnone
  rcases sameFrame_of_step h with hsame | ⟨e, rest, hhost, hreplaces⟩
  · exact ⟨hsame.readBuf_rgb, hsame.frWidth, hsame.frHeight, hsame.frameValid, hsame.prev⟩
  · obtain ⟨hreset, hcfg, hdecf, hsrst⟩ := hnone rest
    rcases hreplaces with rfl | rfl | rfl | rfl
    · exact absurd hhost hreset
    · exact absurd hhost hcfg
    · exact absurd hhost hdecf
    · exact absurd hhost hsrst

/-! ### The buffers after reset (70 R291, R292) -/

/-- After reset a field buffer lists no element, so each reads its free value (log 6). -/
theorem fieldElem_powerReset (s : State) (second : Bool) (k : Nat) :
    s.powerReset.fieldElem second k = Config.freeField s.powerReset.powerEpoch second k := by
  cases second <;> rfl

/-- After reset no frame is valid, so each element of `RGB` reads its free value (log 7). -/
theorem rgbElem_powerReset (s : State) (k : Nat) :
    s.powerReset.rgbElem k = Config.freeRgb s.powerReset.rgbEpoch k := rfl

/-- Settles O17: the reset input and `SRST` are the one operation `State.powerReset`. -/
theorem resetInputActsAsSrst : Obligations.ResetInputActsAsSrst := by
  intro s t rest
  refine ⟨step_of_host_cons, fun h => ?_⟩
  cases h
  refine ⟨fun k hk => ?_, fun k hk => ?_, fun k hk => ?_, rfl⟩
  · exact (readBuf_fields_of_lt _ hk).1.trans (fieldElem_powerReset s false k)
  · exact (readBuf_fields_of_lt _ hk).2.trans (fieldElem_powerReset s true k)
  · exact (if_pos hk).trans (rgbElem_powerReset s k)

end Sys2Proof.Proofs
end
